-- ==== Sys2Proof/Word.lean ====
section
/-! DEFINITION. The word types of the block: bytes, and the fixed-length byte sequences of the formats the spec
gives (R6, R80). The block has no machine word wider than a byte but the command word and the result pattern. -/

namespace Sys2Proof

/-- A byte: 8 bits, an unsigned integer 0 to 255 (R8). -/
abbrev Byte := BitVec 8

/-- The command word `CW[33:0]` by which the caller issues one operation (R81). -/
abbrev CommandWord := BitVec 34

/-- Template bytes 1 to 7 of a Command Table entry, in table order: what LOOKUP answers (R110, `TPL_LEN` of R6). -/
abbrev Template := Vector Byte 7

/-- A whole Command Table entry, template byte 0 first (R84, `STRIDE` of R6). -/
abbrev Entry := Vector Byte 8

/-- An OutgoingMessage, wire byte 0 (sent first) at index 0 (R85, `TX_LEN` of R6). -/
abbrev Frame := Vector Byte 8

/-- A ResponsePayload, the first byte received at index 0 (R86, `RX_LEN` of R6). -/
abbrev Payload := Vector Byte 9

end Sys2Proof
end

