-- ==== Sys2Proof/Config.lean ====
section
/-! DEFINITION. What an implementation of the block fixes (R6, R7) and the values the spec leaves open: the
contents of the Command Table, the names of the quantities, and what RXBUF holds after a failed read. The open ones are opaque: no proof can see
a value of them. -/

namespace Sys2Proof

/-- The two readings of the response the spec specifies (R7 `FLOAT_WIDTH`, R141, R142). -/
inductive FloatWidth where
  | w32
  | w64
deriving DecidableEq, Repr

/-- How many bits the decoded value has under each reading (R29). -/
abbrev FloatWidth.bits : FloatWidth → Nat
  | .w32 => 32
  | .w64 => 64

namespace Config

/-- `N_PARAMS`: entries of the Command Table, and valid ParameterIds (R6). -/
abbrev nParams : Nat := 31

/-- `STRIDE`: bytes of one Command Table entry (R6). -/
abbrev stride : Nat := 8

/-- `TABLE_BYTES`: size of the Command Table (R6, R32). -/
abbrev tableBytes : Nat := nParams * stride

/-- `MAX_OFFSET`: the largest valid ParameterId (R6). -/
abbrev maxOffset : Nat := 240

/-- `TX_LEN`: bytes of an OutgoingMessage (R6). -/
abbrev txLen : Nat := 8

/-- `TPL_LEN`: template bytes copied into an OutgoingMessage (R6). -/
abbrev tplLen : Nat := 7

/-- `RX_LEN`: bytes of a ResponsePayload, and the threshold of the wait (R6, R144). -/
abbrev rxLen : Nat := 9

/-- `BAUD_BITS`: width of the operand of INITIALIZE (R7, R89). -/
abbrev baudBits : Nat := 32

/-- `FLOAT_WIDTH` of this hardware (R7, R141). -/
abbrev floatWidth : FloatWidth := .w32

/-- `CMD_TABLE[a]`, the byte of the Command Table at address `a` (R7, R32). The spec gives none of the 248 values
(91_not_in_source.md N1), so this is a free value: a claim holds for every table. Log entry 1. -/
opaque cmdTable : Nat → Byte

/-- `PARAM_NAME`, the name of the quantity at an offset (R7). The spec gives no pairing of a name with an offset
(91_not_in_source.md N2), so this too is free; `parameterName` is its map on the 31 valid offsets. Log entry 30. -/
opaque paramName : Byte → String

/-- What RXBUF holds after a failed `T.read(9)`: "`RXBUF` has no value afterwards" (93_implementation_defined.md U7).
A free value, of the number of such failures so far and of what RXBUF held. Log entry 6. -/
opaque rxbufAfterFailedRead : Nat → Payload → Payload

end Config

end Sys2Proof
end

