-- ==== Sys2Proof/Syntax.lean ====
section
/-! DEFINITION. The syntax: one constructor for every row of spec/opcode_table.json, and the words of its
formats, one kind for every format of R80 (and one for the operand of the internal LOOKUP, which has the width of a
ParameterId). -/

namespace Sys2Proof

/-- One constructor per row of spec/opcode_table.json. The first four are the caller's operations (R81, R93);
`lookup` is their internal step (R110); `p000` to `p240` are the 31 valid ParameterIds (R82); `outMsg`, `resp` and
`entry` are the byte-exact formats (R84 to R86). Reserved bits of the command word are ignored (R90), so no
constructor carries them. -/
inductive Instr where
  /-- INITIALIZE `baud_rate` (R162). -/
  | opInitialize (baud : BitVec 32)
  /-- QUERY `parameter_id, slave_address` (R166). -/
  | opQuery (p a : Byte)
  /-- ENCODE `parameter_id, slave_address` (R120). -/
  | opEncode (p a : Byte)
  /-- DECODE (R135). -/
  | opDecode
  /-- LOOKUP `p` (R110). -/
  | lookup (p : Byte)
  /-- The ParameterId of the entry at table offset 0 (R82). -/
  | p000
  /-- The ParameterId of the entry at table offset 8 (R82). -/
  | p008
  /-- The ParameterId of the entry at table offset 16 (R82). -/
  | p016
  /-- The ParameterId of the entry at table offset 24 (R82). -/
  | p024
  /-- The ParameterId of the entry at table offset 32 (R82). -/
  | p032
  /-- The ParameterId of the entry at table offset 40 (R82). -/
  | p040
  /-- The ParameterId of the entry at table offset 48 (R82). -/
  | p048
  /-- The ParameterId of the entry at table offset 56 (R82). -/
  | p056
  /-- The ParameterId of the entry at table offset 64 (R82). -/
  | p064
  /-- The ParameterId of the entry at table offset 72 (R82). -/
  | p072
  /-- The ParameterId of the entry at table offset 80 (R82). -/
  | p080
  /-- The ParameterId of the entry at table offset 88 (R82). -/
  | p088
  /-- The ParameterId of the entry at table offset 96 (R82). -/
  | p096
  /-- The ParameterId of the entry at table offset 104 (R82). -/
  | p104
  /-- The ParameterId of the entry at table offset 112 (R82). -/
  | p112
  /-- The ParameterId of the entry at table offset 120 (R82). -/
  | p120
  /-- The ParameterId of the entry at table offset 128 (R82). -/
  | p128
  /-- The ParameterId of the entry at table offset 136 (R82). -/
  | p136
  /-- The ParameterId of the entry at table offset 144 (R82). -/
  | p144
  /-- The ParameterId of the entry at table offset 152 (R82). -/
  | p152
  /-- The ParameterId of the entry at table offset 160 (R82). -/
  | p160
  /-- The ParameterId of the entry at table offset 168 (R82). -/
  | p168
  /-- The ParameterId of the entry at table offset 176 (R82). -/
  | p176
  /-- The ParameterId of the entry at table offset 184 (R82). -/
  | p184
  /-- The ParameterId of the entry at table offset 192 (R82). -/
  | p192
  /-- The ParameterId of the entry at table offset 200 (R82). -/
  | p200
  /-- The ParameterId of the entry at table offset 208 (R82). -/
  | p208
  /-- The ParameterId of the entry at table offset 216 (R82). -/
  | p216
  /-- The ParameterId of the entry at table offset 224 (R82). -/
  | p224
  /-- The ParameterId of the entry at table offset 232 (R82). -/
  | p232
  /-- The ParameterId of the entry at table offset 240 (R82). -/
  | p240
  /-- An OutgoingMessage on the wire (R85). -/
  | outMsg (m : Frame)
  /-- A ResponsePayload from the wire (R86). -/
  | resp (r : Payload)
  /-- One Command Table entry (R84). -/
  | entry (e : Entry)
deriving DecidableEq, Repr

/-- A word of one of the formats that are no command word (R80). The caller has no port for these: its operations
are a closed set (R2, R81). -/
inductive FormatWord where
  /-- A ParameterId (R82). -/
  | pid (w : BitVec 8)
  /-- The operand of the internal LOOKUP (R110). -/
  | lookupOperand (w : BitVec 8)
  /-- An OutgoingMessage as a 64-bit pattern, wire byte 0 most significant (R85). -/
  | outBits (w : BitVec 64)
  /-- A ResponsePayload as a 72-bit pattern, byte 0 most significant (R86). -/
  | respBits (w : BitVec 72)
  /-- A table entry as a 64-bit pattern (R84), "lowest address leftmost" (the ENTRY row of spec/opcode_table.json). -/
  | entryBits (w : BitVec 64)
deriving DecidableEq, Repr

/-- A word of spec/opcode_table.json with its format (R80): which format a word has is known from the place where it
stands, not from its bits. -/
inductive TableWord where
  /-- A command word, issued by the caller (R81). -/
  | cw (w : CommandWord)
  /-- A word of another format. -/
  | fmt (f : FormatWord)
deriving DecidableEq, Repr

/-- What spec/opcode_table.json gives of one row's bits: its width, and its match under its mask (no fixed bit:
mask 0). -/
structure TableRow where
  width : Nat
  mask : Nat
  fixed : Nat
deriving DecidableEq, Repr

end Sys2Proof
end

