-- ==== Sys2Proof/Machine/State.lean ====
section
/-! DEFINITION. The state of the machine: the ten registers of the block (R21 to R26, R28 to R31), the Command
Table (R32), the transport as far as the block can observe it (R36 to R38), the words the caller holds at the port
(R160), and the model's own fields: what the environment does next (R39 to R41), a word presented by hand and the
answers of such words, and a counter for free values. -/

namespace Sys2Proof.Machine

/-- `PHASE`, the sequencing register: the four states of the block (R21). -/
inductive Phase where
  | idle
  | sending
  | waitingForResponse
  | decoding
deriving DecidableEq, Repr

/-- `CUROP`, the running operation (R22). -/
inductive OpCode where
  /-- INITIALIZE, code 0. -/
  | init
  /-- QUERY, code 1. -/
  | query
  /-- ENCODE, code 2. -/
  | encode
  /-- DECODE, code 3. -/
  | decode
deriving DecidableEq, Repr

/-- `STATUS`, the outcome of the most recent operation (R31). Codes 5 to 7 are unused and have no constructor
(93_implementation_defined.md U9). -/
inductive Status where
  /-- Code 0. -/
  | ok
  /-- Code 1 (R176). -/
  | invalidParameter
  /-- Code 2 (R177). -/
  | transportError
  /-- Code 3, reserved: this hardware never raises it (R178). -/
  | timeout
  /-- Code 4, reserved: this hardware never raises it (R179). -/
  | shortRead
deriving DecidableEq, Repr

/-- The parity of a serial format. The spec uses `even` alone; the other two are the usual ones. PRESUMED, log
entry 21. -/
inductive Parity where
  | none
  | even
  | odd
deriving DecidableEq, Repr

/-- What `T.configure` sets: `(baud_rate, data_bits, parity, stop_bits)` (R38, R56). -/
structure SerialConfig where
  baud : BitVec 32
  dataBits : Nat
  parity : Parity
  stopBits : Nat
deriving DecidableEq, Repr

/-- How one call of `T.write` turns out: the environment's choice (R39). Whether the byte of a failing call was
appended is the environment's choice too (R57, 93_implementation_defined.md U6). -/
inductive WriteOutcome where
  | accepted
  | failed (landed : Bool)
deriving DecidableEq, Repr

/-- How one call of `T.read(9)` turns out: the environment's choice (R39). A failing call removes between 0 and 9 of
the oldest bytes (R59, 93_implementation_defined.md U7). -/
inductive ReadOutcome where
  | delivered
  | failed (removed : Fin 10)
deriving DecidableEq, Repr

/-- One turn of the environment: what the other agents do just before one step of the block, and how the transport
call of that step (if it makes one) turns out. These are the free inputs of the step relation (R39 to R41). -/
structure EnvTurn where
  /-- The bytes the meter appends to the receive buffer (R40), oldest first. -/
  arrive : List Byte
  /-- The command words the caller newly offers at the port (R160), first offered first. The caller has no other
  words: its operations are a closed set (R2). -/
  offer : List CommandWord
  /-- Whether the reset event occurs (R200: at any time, in any phase). -/
  reset : Bool
  /-- The outcome of this step's `T.write`. -/
  write : WriteOutcome
  /-- The outcome of this step's `T.read(9)`. -/
  read : ReadOutcome
deriving DecidableEq, Repr

/-- A turn in which no other agent does anything and no transport call fails. -/
def EnvTurn.quiet : EnvTurn :=
  { arrive := [], offer := [], reset := false, write := .accepted, read := .delivered }

/-- The known bytes of the Command Table: address and byte, addresses strictly rising (R32, R51). An address that is
not listed reads as `Config.cmdTable` (Machine/Ops.lean). -/
abbrev Memory := List Host.Cell

/-- The machine's state. Plain data. -/
structure State where
  /-- `PHASE` (R21). -/
  phase : Phase
  /-- `CUROP` (R22). -/
  curop : OpCode
  /-- `PARAM` (R23). -/
  param : Byte
  /-- `SADDR` (R24). -/
  saddr : Byte
  /-- `TXCNT`, "values 0 to 8" (R25). -/
  txcnt : Fin 9
  /-- `TXBUF[0..7]` (R26). -/
  txbuf : Frame
  /-- `RXBUF[0..8]` (R28). -/
  rxbuf : Payload
  /-- `RESULT`, `FLOAT_WIDTH = 32` bits (R29). -/
  result : BitVec 32
  /-- `RESULT_VALID` (R30). -/
  resultValid : Bool
  /-- `STATUS` (R31). -/
  status : Status
  /-- `TABLE[0..247]`, the bytes of it that are given (R32). -/
  table : Memory
  /-- `T.TXLOG`, oldest first (R36). -/
  txlog : List Byte
  /-- `T.RXFIFO`, oldest first (R37). -/
  rxfifo : List Byte
  /-- `T.CONFIG`; `none` is `unconfigured` (R38). -/
  config : Option SerialConfig
  /-- The command words offered at the port and not yet taken, first offered first (R160). The spec speaks of one held
  command; that any number may be held, and that they are taken first in, first out, is the model's choice.
  DESIGN CHOICE, log entry 29. -/
  port : List CommandWord
  /-- The model's own: a word of another format presented by hand, for the next step in `Idle`. No agent puts one
  there. Log entry 13. -/
  bench : Option FormatWord
  /-- The model's own: the turns the environment takes, next first; after the last, quiet turns. Log entry 4. -/
  env : List EnvTurn
  /-- The model's own: the template bytes the latest stand-alone LOOKUP answered. Log entry 10. -/
  lookupOut : Option Template
  /-- The model's own: the latest OutgoingMessage presented alone, wire byte 0 first. Log entry 11. -/
  wireOut : Option Frame
  /-- The model's own: how many free values have been drawn. Log entry 6. -/
  freeCount : Nat
deriving DecidableEq, Repr

/-- Why the machine stops. Neither reason can arise in a run of the block; both are safe: no effect is claimed. -/
inductive Fault where
  /-- Raised by the lookup if it were to read a table address outside 0 to 247, which does not exist (R55). It never
  does (R54). Safe. -/
  | tableAddressAbsent
  /-- Raised by the end of sending if CUROP is neither QUERY nor ENCODE, a case R164 gives no effect: "`CUROP` has no
  other value in `Sending`". Safe. -/
  | sendingWithoutOperation
deriving DecidableEq, Repr

/-- Why the model gives a step no meaning. -/
inductive Refusal where
  /-- Raised by `exec`'s arm for an instruction without a meaning yet. Safe. -/
  | notModelled (mnemonic : String)
  /-- Raised by the block's first transport call (`T.write`, `T.available`, `T.read`) while the transport is
  unconfigured: R203 gives it no value and has the model refuse the run. Safe. -/
  | transportUnconfigured
deriving DecidableEq, Repr

/-- The machine right after reset (R200 and the table of 10_state.md section 7). PHASE, STATUS, RESULT_VALID and
T.CONFIG are the spec's; T.TXLOG is the spec's for a model (R36). The registers the spec leaves unspecified hold all
ones (TXCNT its largest value): never zero by default (93_implementation_defined.md U4). DESIGN CHOICE, log entry 2;
T.RXFIFO and the inputs are empty, log entry 3. -/
def State.reset : State where
  phase := .idle
  curop := .decode
  param := 0xFF#8
  saddr := 0xFF#8
  txcnt := 8
  txbuf := #v[0xFF#8, 0xFF#8, 0xFF#8, 0xFF#8, 0xFF#8, 0xFF#8, 0xFF#8, 0xFF#8]
  rxbuf := #v[0xFF#8, 0xFF#8, 0xFF#8, 0xFF#8, 0xFF#8, 0xFF#8, 0xFF#8, 0xFF#8, 0xFF#8]
  result := 0xFFFFFFFF#32
  resultValid := false
  status := .ok
  table := []
  txlog := []
  rxfifo := []
  config := none
  port := []
  bench := none
  env := []
  lookupOut := none
  wireOut := none
  freeCount := 0

end Sys2Proof.Machine
end

