-- ==== Sys2Proof/Machine/Flags.lean ====
section
/-! DEFINITION. The flags and codes of the block (R21, R22, R30, R31, R34), how an operation ends (R147, R164, R184),
and what the caller can read when it has ended (R95). The block has no arithmetic flags (R34). -/

namespace Sys2Proof.Machine

/-- The code of a phase (R21). -/
def Phase.code : Phase → BitVec 2
  | .idle => 0
  | .sending => 1
  | .waitingForResponse => 2
  | .decoding => 3

/-- The code of an operation, equal to its `op` field (R22, R81). -/
def OpCode.code : OpCode → BitVec 2
  | .init => 0
  | .query => 1
  | .encode => 2
  | .decode => 3

/-- The code in STATUS (R31). -/
def Status.code : Status → BitVec 3
  | .ok => 0
  | .invalidParameter => 1
  | .transportError => 2
  | .timeout => 3
  | .shortRead => 4

/-- The derived signal `BUSY = (PHASE ≠ Idle)` (R34). -/
def State.busy (s : State) : Bool := decide (s.phase ≠ .idle)

/-- The errors this hardware raises (R175). -/
inductive ErrorCode where
  | invalidParameter
  | transportError
deriving DecidableEq, Repr

/-- `code(E)` of R184, by the names of R31. -/
def ErrorCode.status : ErrorCode → Status
  | .invalidParameter => .invalidParameter
  | .transportError => .transportError

/-- Error entry, `raise E` (R184): STATUS takes the error, RESULT_VALID is cleared, PHASE becomes `Idle`, nothing
else changes. This is the block's whole exception mechanism: no state is saved, no handler runs, and there is no
return from it (R185). -/
def raiseError (e : ErrorCode) (s : State) : State :=
  { s with status := e.status, resultValid := false, phase := .idle }

/-- What the caller can read of an ended operation (R95): STATUS; after a QUERY or DECODE the MeasurementValue
when RESULT_VALID is 1; after an ENCODE that ended `OK` the OutgoingMessage; after INITIALIZE nothing more. -/
structure CompletionRecord where
  status : Status
  result : Option (BitVec 32)
  message : Option Frame
deriving DecidableEq, Repr

/-- The completion record of the operation `op` the caller issued last; none while the block is busy (R29, R31).
A result that is not valid is not readable (93_implementation_defined.md U4). DEDUCED, log entry 24. -/
def completionRecord (op : OpCode) (s : State) : Option CompletionRecord :=
  if s.busy then none
  else some
    { status := s.status
      result := if (op = .query ∨ op = .decode) ∧ s.resultValid = true then some s.result else none
      message := if op = .encode ∧ s.status = .ok then some s.txbuf else none }

end Sys2Proof.Machine
end

