-- ==== Sys2Proof/Decode.lean ====
section
/-! DEFINITION. The decoder, total on every word of every format and rejecting by name, then the encoder, both
written from 30_encoding.md; and the opcode table's own numbering of a row's bits (`decodeTableWord`). -/

namespace Sys2Proof

/-! ## Fields -/

/-- `ValidParam(p)`: the low three bits are zero and the offset is at most 240 (R83). -/
def validParam (p : Byte) : Bool :=
  p.extractLsb' 0 3 == 0#3 && decide (p.toNat ≤ Config.maxOffset)

/-- `PID[7:3]`, the entry number (R82). -/
def entryIndex (p : Byte) : BitVec 5 := p.extractLsb' 3 5

/-- The bytes of a 64-bit pattern, the most significant first (R84, R85). -/
def bytes8 (w : BitVec 64) : Vector Byte 8 :=
  Vector.ofFn fun k : Fin 8 => w.extractLsb' (8 * (7 - k.val)) 8

/-- The bytes of a 72-bit pattern, the most significant first (R86). -/
def bytes9 (w : BitVec 72) : Vector Byte 9 :=
  Vector.ofFn fun k : Fin 9 => w.extractLsb' (8 * (8 - k.val)) 8

/-- Eight bytes read as one number, the first most significant: the concatenation of R8. -/
def concat8 (v : Vector Byte 8) : BitVec 64 :=
  v[0] ++ v[1] ++ v[2] ++ v[3] ++ v[4] ++ v[5] ++ v[6] ++ v[7]

/-- Nine bytes read as one number, the first most significant: the concatenation of R8. -/
def concat9 (v : Vector Byte 9) : BitVec 72 :=
  v[0] ++ v[1] ++ v[2] ++ v[3] ++ v[4] ++ v[5] ++ v[6] ++ v[7] ++ v[8]

/-! ## The decoder -/

/-- Why a word is rejected. Every command word is legal (R91), so only a ParameterId can be. -/
inductive DecodeError where
  /-- A ParameterId with `ValidParam` false: an illegal operand (R83, R91). -/
  | invalidParameterId
deriving DecidableEq, Repr

/-- What the decoder answers. -/
inductive Decoded where
  | instr (i : Instr)
  | illegal (e : DecodeError)
deriving DecidableEq, Repr

/-- The 31 ParameterIds, each with the constructor of its row (R82). -/
def pidRows : List (Byte × Instr) :=
  [(0x00#8, .p000), (0x08#8, .p008), (0x10#8, .p016), (0x18#8, .p024),
   (0x20#8, .p032), (0x28#8, .p040), (0x30#8, .p048), (0x38#8, .p056),
   (0x40#8, .p064), (0x48#8, .p072), (0x50#8, .p080), (0x58#8, .p088),
   (0x60#8, .p096), (0x68#8, .p104), (0x70#8, .p112), (0x78#8, .p120)] ++
  [(0x80#8, .p128), (0x88#8, .p136), (0x90#8, .p144), (0x98#8, .p152),
   (0xA0#8, .p160), (0xA8#8, .p168), (0xB0#8, .p176), (0xB8#8, .p184),
   (0xC0#8, .p192), (0xC8#8, .p200), (0xD0#8, .p208), (0xD8#8, .p216),
   (0xE0#8, .p224), (0xE8#8, .p232), (0xF0#8, .p240)]

/-- A command word, by its operation code `CW[33:32]` (R81). All four codes are used; reserved bits are ignored
(R90). -/
def decodeCommand (w : CommandWord) : Instr :=
  let op := w.extractLsb' 32 2
  if op = 0#2 then .opInitialize (w.extractLsb' 0 32)
  else if op = 1#2 then .opQuery (w.extractLsb' 8 8) (w.extractLsb' 0 8)
  else if op = 2#2 then .opEncode (w.extractLsb' 8 8) (w.extractLsb' 0 8)
  else .opDecode

/-- A ParameterId: one of the 31 rows, or rejected (R82, R91). -/
def decodePid (w : BitVec 8) : Decoded :=
  match pidRows.find? (fun r => r.1 == w) with
  | some r => .instr r.2
  | none => .illegal .invalidParameterId

/-- A word of one of the other formats. ENTRY's bytes stand "lowest address leftmost" (spec/opcode_table.json). -/
def decodeFormat : FormatWord → Decoded
  | .pid w => decodePid w
  | .lookupOperand w => .instr (.lookup w)
  | .outBits w => .instr (.outMsg (bytes8 w))
  | .respBits w => .instr (.resp (bytes9 w))
  | .entryBits w => .instr (.entry (bytes8 w))

/-- The decoder. -/
def decode : TableWord → Decoded
  | .cw w => .instr (decodeCommand w)
  | .fmt f => decodeFormat f

/-- The instruction a word decodes to, if any. -/
def Decoded.instr? : Decoded → Option Instr
  | .instr i => some i
  | .illegal _ => none

/-! ## The encoder -/

/-- A command word put together from its fields: `op`, `arg[31:16]`, `arg[15:8]`, `arg[7:0]` (R81). -/
def commandWord (op : BitVec 2) (reserved : BitVec 16) (hi lo : Byte) : CommandWord :=
  op ++ reserved ++ hi ++ lo

/-- The word of an instruction. Reserved bits are written as zeros (R90). -/
def encode : Instr → TableWord
  | .opInitialize b => .cw (0#2 ++ b)
  | .opQuery p a => .cw (commandWord 1#2 0#16 p a)
  | .opEncode p a => .cw (commandWord 2#2 0#16 p a)
  | .opDecode => .cw (commandWord 3#2 0#16 0#8 0#8)
  | .lookup p => .fmt (.lookupOperand p)
  | .p000 => .fmt (.pid 0x00#8)
  | .p008 => .fmt (.pid 0x08#8)
  | .p016 => .fmt (.pid 0x10#8)
  | .p024 => .fmt (.pid 0x18#8)
  | .p032 => .fmt (.pid 0x20#8)
  | .p040 => .fmt (.pid 0x28#8)
  | .p048 => .fmt (.pid 0x30#8)
  | .p056 => .fmt (.pid 0x38#8)
  | .p064 => .fmt (.pid 0x40#8)
  | .p072 => .fmt (.pid 0x48#8)
  | .p080 => .fmt (.pid 0x50#8)
  | .p088 => .fmt (.pid 0x58#8)
  | .p096 => .fmt (.pid 0x60#8)
  | .p104 => .fmt (.pid 0x68#8)
  | .p112 => .fmt (.pid 0x70#8)
  | .p120 => .fmt (.pid 0x78#8)
  | .p128 => .fmt (.pid 0x80#8)
  | .p136 => .fmt (.pid 0x88#8)
  | .p144 => .fmt (.pid 0x90#8)
  | .p152 => .fmt (.pid 0x98#8)
  | .p160 => .fmt (.pid 0xA0#8)
  | .p168 => .fmt (.pid 0xA8#8)
  | .p176 => .fmt (.pid 0xB0#8)
  | .p184 => .fmt (.pid 0xB8#8)
  | .p192 => .fmt (.pid 0xC0#8)
  | .p200 => .fmt (.pid 0xC8#8)
  | .p208 => .fmt (.pid 0xD0#8)
  | .p216 => .fmt (.pid 0xD8#8)
  | .p224 => .fmt (.pid 0xE0#8)
  | .p232 => .fmt (.pid 0xE8#8)
  | .p240 => .fmt (.pid 0xF0#8)
  | .outMsg m => .fmt (.outBits (concat8 m))
  | .resp r => .fmt (.respBits (concat9 r))
  | .entry e => .fmt (.entryBits (concat8 e))

/-! ## The opcode table's numbering -/

/-- A word's bits as one number, bit 0 least significant. -/
def TableWord.bits : TableWord → Nat
  | .cw w => w.toNat
  | .fmt (.pid w) => w.toNat
  | .fmt (.lookupOperand w) => w.toNat
  | .fmt (.outBits w) => w.toNat
  | .fmt (.respBits w) => w.toNat
  | .fmt (.entryBits w) => w.toNat

/-- How many bits a word has (R80). -/
def TableWord.width : TableWord → Nat
  | .cw _ => 34
  | .fmt (.pid _) => 8
  | .fmt (.lookupOperand _) => 8
  | .fmt (.outBits _) => 64
  | .fmt (.respBits _) => 72
  | .fmt (.entryBits _) => 64

/-- The row of spec/opcode_table.json an instruction belongs to. -/
def Instr.tableRow : Instr → TableRow
  | .opInitialize _ => ⟨34, 0x300000000, 0x000000000⟩
  | .opQuery _ _ => ⟨34, 0x300000000, 0x100000000⟩
  | .opEncode _ _ => ⟨34, 0x300000000, 0x200000000⟩
  | .opDecode => ⟨34, 0x300000000, 0x300000000⟩
  | .lookup _ => ⟨8, 0, 0⟩
  | .p000 => ⟨8, 0xFF, 0x00⟩
  | .p008 => ⟨8, 0xFF, 0x08⟩
  | .p016 => ⟨8, 0xFF, 0x10⟩
  | .p024 => ⟨8, 0xFF, 0x18⟩
  | .p032 => ⟨8, 0xFF, 0x20⟩
  | .p040 => ⟨8, 0xFF, 0x28⟩
  | .p048 => ⟨8, 0xFF, 0x30⟩
  | .p056 => ⟨8, 0xFF, 0x38⟩
  | .p064 => ⟨8, 0xFF, 0x40⟩
  | .p072 => ⟨8, 0xFF, 0x48⟩
  | .p080 => ⟨8, 0xFF, 0x50⟩
  | .p088 => ⟨8, 0xFF, 0x58⟩
  | .p096 => ⟨8, 0xFF, 0x60⟩
  | .p104 => ⟨8, 0xFF, 0x68⟩
  | .p112 => ⟨8, 0xFF, 0x70⟩
  | .p120 => ⟨8, 0xFF, 0x78⟩
  | .p128 => ⟨8, 0xFF, 0x80⟩
  | .p136 => ⟨8, 0xFF, 0x88⟩
  | .p144 => ⟨8, 0xFF, 0x90⟩
  | .p152 => ⟨8, 0xFF, 0x98⟩
  | .p160 => ⟨8, 0xFF, 0xA0⟩
  | .p168 => ⟨8, 0xFF, 0xA8⟩
  | .p176 => ⟨8, 0xFF, 0xB0⟩
  | .p184 => ⟨8, 0xFF, 0xB8⟩
  | .p192 => ⟨8, 0xFF, 0xC0⟩
  | .p200 => ⟨8, 0xFF, 0xC8⟩
  | .p208 => ⟨8, 0xFF, 0xD0⟩
  | .p216 => ⟨8, 0xFF, 0xD8⟩
  | .p224 => ⟨8, 0xFF, 0xE0⟩
  | .p232 => ⟨8, 0xFF, 0xE8⟩
  | .p240 => ⟨8, 0xFF, 0xF0⟩
  | .outMsg _ => ⟨64, 0, 0⟩
  | .resp _ => ⟨72, 0, 0⟩
  | .entry _ => ⟨64, 0, 0⟩

/-- The word whose bits are `w` among `nbits` bits, the table's own width rounded up to whole bytes (or not). An
8-bit word is a ParameterId where it is one of the 31, and otherwise the operand of a LOOKUP, as the LOOKUP row's
note says; a 64-bit word is taken as an OutgoingMessage, since nothing in its bits tells the two 64-bit formats
apart. DESIGN CHOICE, log entry 9. -/
def tableWord (nbits w : Nat) : Option TableWord :=
  if nbits = 34 ∨ nbits = 40 then
    if w < 2 ^ 34 then some (.cw (BitVec.ofNat 34 w)) else none
  else if nbits = 8 then
    if w < 2 ^ 8 then
      if validParam (BitVec.ofNat 8 w) then some (.fmt (.pid (BitVec.ofNat 8 w)))
      else some (.fmt (.lookupOperand (BitVec.ofNat 8 w)))
    else none
  else if nbits = 64 then
    if w < 2 ^ 64 then some (.fmt (.outBits (BitVec.ofNat 64 w))) else none
  else if nbits = 72 then
    if w < 2 ^ 72 then some (.fmt (.respBits (BitVec.ofNat 72 w))) else none
  else none

/-- The instruction the decoder reads from the `nbits` bits `w`, numbered as spec/opcode_table.json numbers them. -/
def decodeTableWord (nbits w : Nat) : Option Instr :=
  (tableWord nbits w).bind fun x => (decode x).instr?

end Sys2Proof
end

