-- ==== Sys2Proof/Machine/Operands.lean ====
section
/-! DEFINITION. The operand forms and the datapath: reads of the Command Table (R51 to R55), the frame (R122, R123),
the response as a number and the decoded value (R137 to R142, R151), and the reading of a value as an IEEE 754 number
(R143, not used by any step). -/

namespace Sys2Proof.Machine

/-! ## The Command Table -/

/-- The byte listed for an address, if any. -/
def Memory.cell : Memory → Nat → Option Byte
  | [], _ => none
  | c :: rest, a => if c.1 = a then some c.2 else Memory.cell rest a

/-- `TABLE[a]` (R32): the byte given for `a`, and otherwise the free value `CMD_TABLE[a]`. -/
def Memory.byte (m : Memory) (a : Nat) : Byte := (m.cell a).getD (Config.cmdTable a)

/-- `MemRead(a, n)`: `n` bytes from address `a` on, defined only inside the table (R9, R55). -/
def memRead (m : Memory) (a n : Nat) : Option (Vector Byte n) :=
  if a + n ≤ Config.tableBytes then some (Vector.ofFn fun k : Fin n => m.byte (a + k.val)) else none

/-- Addresses strictly rising from `lo` on, all inside the table, no entry equal to what its address reads as when it
is not listed. -/
def Memory.wfFrom (lo : Nat) : Memory → Bool
  | [] => true
  | c :: rest =>
    decide (lo ≤ c.1) && decide (c.1 < Config.tableBytes) && decide (c.2 ≠ Config.cmdTable c.1)
      && Memory.wfFrom (c.1 + 1) rest

/-- The canonical form of the table's known bytes. -/
def Memory.wf (m : Memory) : Bool := Memory.wfFrom 0 m

/-- Why a lookup gives no template. -/
inductive LookupFailure where
  /-- `ValidParam(p)` is false: InvalidParameter (R110, R176). -/
  | invalidParameter
  /-- A table address that does not exist would be read; it never is (R54). -/
  | addressAbsent
deriving DecidableEq, Repr

/-- `Lookup(p)` (R110): the validity test first, then template bytes 1 to 7, at `p+1` to `p+7` (R112). -/
def lookupTemplate (m : Memory) (p : Byte) : Except LookupFailure Template :=
  if validParam p then
    match memRead m (p.toNat + 1) Config.tplLen with
    | some t => .ok t
    | none => .error .addressAbsent
  else .error .invalidParameter

/-- `Entry(p)[1..7]`: an entry less its template byte 0, which is never used (R84, R110). -/
def entryTemplate (e : Entry) : Template :=
  #v[e[1], e[2], e[3], e[4], e[5], e[6], e[7]]

/-- `PARAM_NAME`: the map from the 31 valid offsets to names (R7, R82); no step uses it. -/
def parameterName (p : Byte) : Option String :=
  if validParam p then some (Config.paramName p) else none

/-! ## The frame -/

/-- `SADDR ‖ template bytes 1 to 7`, the slave address first (R85, R122). The address is copied whole (R88). -/
def frameOf (a : Byte) (t : Template) : Frame :=
  #v[a, t[0], t[1], t[2], t[3], t[4], t[5], t[6]]

/-! ## The response -/

/-- `N72`, the response as one number, the first byte received most significant (R137). -/
def responseNumber (r : Payload) : BitVec 72 := concat9 r

/-- `W64 = N72[63:0]` (R138). -/
def responseWord (r : Payload) : BitVec 64 := (responseNumber r).extractLsb' 0 64

/-- `OVR = N72[71:64]`, the overrun byte, used for nothing (R140). -/
def overrunByte (r : Payload) : Byte := (responseNumber r).extractLsb' 64 8

/-- `DecodeValue32(RXBUF) = W64[31:0]` (R141). -/
def decodeValue32 (r : Payload) : BitVec 32 := (responseWord r).extractLsb' 0 32

/-- `DecodeValue64(RXBUF) = W64` (R142, the alternative). -/
def decodeValue64 (r : Payload) : BitVec 64 := responseWord r

/-- `DecodeValue(RXBUF)` for either width (R151). -/
def decodeValue : (fw : FloatWidth) → Payload → BitVec fw.bits
  | .w32, r => decodeValue32 r
  | .w64, r => decodeValue64 r

/-- The original program's destination bytes: index `j` holds the received byte `8 - j` (R139). -/
def reversedBytes (r : Payload) : Vector Byte 9 :=
  #v[r[8], r[7], r[6], r[5], r[4], r[3], r[2], r[1], r[0]]

/-! ## A value as a number -/

/-- The number a pattern stands for under IEEE 754: `mantissa * 2 ^ exp2` with a sign, an infinity, or a NaN. -/
inductive FloatReading where
  | finite (negative : Bool) (mantissa : Nat) (exp2 : Int)
  | infinity (negative : Bool)
  | nan
deriving DecidableEq, Repr

/-- The value function of R143's layout: `w` fraction bits, `e` exponent bits, the given bias. -/
def readFloat (fractionBits exponentBits bias pattern : Nat) : FloatReading :=
  let f := pattern % 2 ^ fractionBits
  let e := pattern / 2 ^ fractionBits % 2 ^ exponentBits
  let s := decide (pattern / 2 ^ (fractionBits + exponentBits) % 2 = 1)
  if e = 2 ^ exponentBits - 1 then (if f = 0 then .infinity s else .nan)
  else if e = 0 then .finite s f (1 - (bias : Int) - fractionBits)
  else .finite s (2 ^ fractionBits + f) ((e : Int) - bias - fractionBits)

/-- binary32 and binary64 (R143). PRESUMED: the layout is general knowledge, 93_implementation_defined.md G1; no step
uses it. Log entry 23. -/
def floatReading : (fw : FloatWidth) → BitVec fw.bits → FloatReading
  | .w32, v => readFloat 23 8 127 v.toNat
  | .w64, v => readFloat 52 11 1023 v.toNat

end Sys2Proof.Machine
end

