-- ==== Sys2Proof/Machine/Ops.lean ====
section
/-! DEFINITION. The shared operations: the five transport primitives (R56 to R60), the environment's turn (R39 to
R41), the port (R160), the reset event (R200), and the accept and assemble steps (R122, R161). -/

namespace Sys2Proof.Machine

/-! ## The transport primitives -/

/-- `T.configure(baud_rate, data_bits, parity, stop_bits)`: sets T.CONFIG and nothing else; never fails (R56). -/
def tConfigure (b : BitVec 32) (dataBits : Nat) (p : Parity) (stopBits : Nat) (s : State) : State :=
  { s with config := some { baud := b, dataBits := dataBits, parity := p, stopBits := stopBits } }

/-- What a fallible transport call answers. -/
inductive CallResult (α : Type) where
  /-- The call succeeded with a value. -/
  | done (a : α) (s : State)
  /-- The call reports failure (R39). -/
  | failed (s : State)
  /-- The call is not enabled: it blocks (R59). -/
  | blocked
  /-- The transport is unconfigured: the call has no meaning (R203). -/
  | noMeaning
deriving DecidableEq, Repr

/-- `T.write(b)` (R57): on success `b` is appended to T.TXLOG; on failure it was appended or not, as the environment
chose. -/
def tWrite (o : WriteOutcome) (b : Byte) (s : State) : CallResult Unit :=
  match s.config with
  | none => .noMeaning
  | some _ =>
    match o with
    | .accepted => .done () { s with txlog := s.txlog ++ [b] }
    | .failed true => .failed { s with txlog := s.txlog ++ [b] }
    | .failed false => .failed s

/-- `T.available()`: how many bytes are buffered; no side effect, never fails (R58). None on an unconfigured
transport (R203). -/
def tAvailable (s : State) : Option Nat := s.config.map fun _ => s.rxfifo.length

/-- The `n` oldest bytes of a sequence and the rest, if there are `n`. -/
def takeBytes (n : Nat) (l : List Byte) : Option (Vector Byte n × List Byte) :=
  if h : n ≤ l.length then some (⟨(l.take n).toArray, by simp; omega⟩, l.drop n) else none

/-- `T.read(9)` (R59): takes the nine oldest bytes out of T.RXFIFO, in arrival order. On failure the environment's
choice of 0 to 9 of the oldest are removed; what RXBUF then holds is a free value, drawn by the failed read
(93_implementation_defined.md U7). -/
def tRead9 (o : ReadOutcome) (s : State) : CallResult Payload :=
  match s.config with
  | none => .noMeaning
  | some _ =>
    match takeBytes Config.rxLen s.rxfifo with
    | none => .blocked
    | some (bytes, rest) =>
      match o with
      | .delivered => .done bytes { s with rxfifo := rest }
      | .failed removed => .failed
          { s with
            rxfifo := s.rxfifo.drop removed.val
            rxbuf := Config.rxbufAfterFailedRead s.freeCount s.rxbuf
            freeCount := s.freeCount + 1 }

/-- `T.flush()`: discards every buffered received byte, leaves sent bytes alone; never fails (R60). -/
def tFlush (s : State) : State := { s with rxfifo := [] }

/-! ## The environment and the port -/

/-- The environment's next turn; a quiet one when none is left. -/
def nextTurn (s : State) : EnvTurn := s.env.headD EnvTurn.quiet

/-- What the other agents do in a turn: the meter's bytes go to the tail of T.RXFIFO (R40), the caller's command
words to the tail of the port (R160). The port as a queue of any length is the model's choice: log entry 29. -/
def absorb (t : EnvTurn) (s : State) : State :=
  { s with rxfifo := s.rxfifo ++ t.arrive, port := s.port ++ t.offer, env := s.env.tail }

/-- The word the block takes in `Idle`, and the state with it taken: a word presented by hand, if there is one (log
entry 13), and otherwise the command word offered first (R160). -/
def fetch (s : State) : Option (TableWord × State) :=
  match s.bench with
  | some f => some (.fmt f, { s with bench := none })
  | none =>
    match s.port with
    | [] => none
    | w :: rest => some (.cw w, { s with port := rest })

/-- A word the decoder rejects: an invalid ParameterId is an illegal operand and takes the InvalidParameter error
(R91, R176). Log entry 25. -/
def rejectWord : DecodeError → State → State
  | .invalidParameterId, s => raiseError .invalidParameter s

/-! ## Reset -/

/-- The reset event (R200), in any phase: PHASE, STATUS, RESULT_VALID and T.CONFIG take the spec's values; T.TXLOG,
T.RXFIFO and TABLE stay (R201, R202). The registers that become unspecified take the values `State.reset` names. Log
entries 2 and 27. -/
def resetEvent (s : State) : State :=
  { State.reset with
    table := s.table
    txlog := s.txlog
    rxfifo := s.rxfifo
    port := s.port
    bench := s.bench
    env := s.env
    freeCount := s.freeCount }

/-! ## Accept, look up, assemble -/

/-- Assembly of the frame (R122): TXBUF is written whole, TXCNT becomes 0, PHASE becomes `Sending`. -/
def assemble (m : Frame) (s : State) : State :=
  { s with txbuf := m, txcnt := 0, phase := .sending }

/-- The registers an addressed operation writes when it is accepted (R161). -/
def latchOperands (op : OpCode) (p a : Byte) (s : State) : State :=
  { s with curop := op, param := p, saddr := a, resultValid := false }

/-- The accept step of QUERY and ENCODE (R161): latch the operands, look PARAM up (R121), then assemble the frame
or raise InvalidParameter. No transport primitive is called. -/
def acceptAddressed (op : OpCode) (p a : Byte) (s : State) : Host.Outcome State Fault Refusal :=
  let s1 := latchOperands op p a s
  match lookupTemplate s1.table s1.param with
  | .ok t => .next (assemble (frameOf s1.saddr t) s1)
  | .error .invalidParameter => .next (raiseError .invalidParameter s1)
  | .error .addressAbsent => .fault .tableAddressAbsent

/-- A stand-alone LOOKUP of `p` (R110): the template is answered and no register changes, or InvalidParameter is
raised. Log entry 10. -/
def answerLookup (p : Byte) (s : State) : Host.Outcome State Fault Refusal :=
  match lookupTemplate s.table p with
  | .ok t => .next { s with lookupOut := some t }
  | .error .invalidParameter => .next (raiseError .invalidParameter s)
  | .error .addressAbsent => .fault .tableAddressAbsent

end Sys2Proof.Machine
end

