-- ==== Sys2Proof/Machine/Command.lean ====
section
/-! DEFINITION. The meanings of the caller's four operations: the step in which the block, in `Idle`, accepts each
(R161, R162). What follows an accepted QUERY, ENCODE or DECODE is Machine/Sequencer.lean. -/

namespace Sys2Proof.Machine

/-- INITIALIZE (R162): `T.configure(b, 8, even, 1)` and STATUS `OK`; the operation ends in this step. -/
def execInitialize (b : BitVec 32) (s : State) : Host.Outcome State Fault Refusal :=
  .next { tConfigure b 8 .even 1 s with status := .ok }

/-- QUERY (R161, R166): accepted like ENCODE, with CUROP = QUERY, so that a response is awaited. -/
def execQuery (p a : Byte) (s : State) : Host.Outcome State Fault Refusal :=
  acceptAddressed .query p a s

/-- ENCODE (R120, R161). -/
def execEncode (p a : Byte) (s : State) : Host.Outcome State Fault Refusal :=
  acceptAddressed .encode p a s

/-- DECODE (R135, R161): the block goes to wait for a response. -/
def execDecode (s : State) : Host.Outcome State Fault Refusal :=
  .next { s with curop := .decode, resultValid := false, phase := .waitingForResponse }

end Sys2Proof.Machine
end

