-- ==== Sys2Proof/Machine/Formats.lean ====
section
/-! DEFINITION. The meanings of the three byte-exact formats: presented by hand, a message and an entry are
read out by their bytes, and a response arrives. DESIGN CHOICE, log entries 10 to 12. -/

namespace Sys2Proof.Machine

/-- An OutgoingMessage (R85): its bytes are answered in wire order, the byte sent first at index 0. Nothing is sent:
a frame goes out only by QUERY or ENCODE (R2, R169). -/
def execOutMsg (m : Frame) (s : State) : Host.Outcome State Fault Refusal :=
  .next { s with wireOut := some m }

/-- A ResponsePayload from the wire (R86): its bytes join the tail of T.RXFIFO in order of arrival (R37, R40). -/
def execResp (r : Payload) (s : State) : Host.Outcome State Fault Refusal :=
  .next { s with rxfifo := s.rxfifo ++ r.toList }

/-- A Command Table entry at the lookup (R84, R110): its template bytes 1 to 7 are answered; byte 0 is not used. -/
def execEntry (e : Entry) (s : State) : Host.Outcome State Fault Refusal :=
  .next { s with lookupOut := some (entryTemplate e) }

end Sys2Proof.Machine
end

