-- ==== Sys2Proof/Machine/Lookup.lean ====
section
/-! DEFINITION. The meanings of LOOKUP and of the 31 ParameterIds. A ParameterId is the byte offset of its entry
(R51, R82); its row says "Semantics of use: rule R110", so each is the LOOKUP of its own offset. Log entries 10
and 13. -/

namespace Sys2Proof.Machine

/-- LOOKUP `p` (R110). -/
def execLookup (p : Byte) (s : State) : Host.Outcome State Fault Refusal := answerLookup p s

/-- The entry at offset 0: `TABLE[1]` to `TABLE[7]`. -/
def execP000 (s : State) : Host.Outcome State Fault Refusal := answerLookup 0x00#8 s

/-- The entry at offset 8: `TABLE[9]` to `TABLE[15]`. -/
def execP008 (s : State) : Host.Outcome State Fault Refusal := answerLookup 0x08#8 s

/-- The entry at offset 16: `TABLE[17]` to `TABLE[23]`. -/
def execP016 (s : State) : Host.Outcome State Fault Refusal := answerLookup 0x10#8 s

/-- The entry at offset 24: `TABLE[25]` to `TABLE[31]`. -/
def execP024 (s : State) : Host.Outcome State Fault Refusal := answerLookup 0x18#8 s

/-- The entry at offset 32: `TABLE[33]` to `TABLE[39]`. -/
def execP032 (s : State) : Host.Outcome State Fault Refusal := answerLookup 0x20#8 s

/-- The entry at offset 40: `TABLE[41]` to `TABLE[47]`. -/
def execP040 (s : State) : Host.Outcome State Fault Refusal := answerLookup 0x28#8 s

/-- The entry at offset 48: `TABLE[49]` to `TABLE[55]`. -/
def execP048 (s : State) : Host.Outcome State Fault Refusal := answerLookup 0x30#8 s

/-- The entry at offset 56: `TABLE[57]` to `TABLE[63]`. -/
def execP056 (s : State) : Host.Outcome State Fault Refusal := answerLookup 0x38#8 s

/-- The entry at offset 64: `TABLE[65]` to `TABLE[71]`. -/
def execP064 (s : State) : Host.Outcome State Fault Refusal := answerLookup 0x40#8 s

/-- The entry at offset 72: `TABLE[73]` to `TABLE[79]`. -/
def execP072 (s : State) : Host.Outcome State Fault Refusal := answerLookup 0x48#8 s

/-- The entry at offset 80: `TABLE[81]` to `TABLE[87]`. -/
def execP080 (s : State) : Host.Outcome State Fault Refusal := answerLookup 0x50#8 s

/-- The entry at offset 88: `TABLE[89]` to `TABLE[95]`. -/
def execP088 (s : State) : Host.Outcome State Fault Refusal := answerLookup 0x58#8 s

/-- The entry at offset 96: `TABLE[97]` to `TABLE[103]`. -/
def execP096 (s : State) : Host.Outcome State Fault Refusal := answerLookup 0x60#8 s

/-- The entry at offset 104: `TABLE[105]` to `TABLE[111]`. -/
def execP104 (s : State) : Host.Outcome State Fault Refusal := answerLookup 0x68#8 s

/-- The entry at offset 112: `TABLE[113]` to `TABLE[119]`. -/
def execP112 (s : State) : Host.Outcome State Fault Refusal := answerLookup 0x70#8 s

/-- The entry at offset 120: `TABLE[121]` to `TABLE[127]`. -/
def execP120 (s : State) : Host.Outcome State Fault Refusal := answerLookup 0x78#8 s

/-- The entry at offset 128: `TABLE[129]` to `TABLE[135]`. -/
def execP128 (s : State) : Host.Outcome State Fault Refusal := answerLookup 0x80#8 s

/-- The entry at offset 136: `TABLE[137]` to `TABLE[143]`. -/
def execP136 (s : State) : Host.Outcome State Fault Refusal := answerLookup 0x88#8 s

/-- The entry at offset 144: `TABLE[145]` to `TABLE[151]`. -/
def execP144 (s : State) : Host.Outcome State Fault Refusal := answerLookup 0x90#8 s

/-- The entry at offset 152: `TABLE[153]` to `TABLE[159]`. -/
def execP152 (s : State) : Host.Outcome State Fault Refusal := answerLookup 0x98#8 s

/-- The entry at offset 160: `TABLE[161]` to `TABLE[167]`. -/
def execP160 (s : State) : Host.Outcome State Fault Refusal := answerLookup 0xA0#8 s

/-- The entry at offset 168: `TABLE[169]` to `TABLE[175]`. -/
def execP168 (s : State) : Host.Outcome State Fault Refusal := answerLookup 0xA8#8 s

/-- The entry at offset 176: `TABLE[177]` to `TABLE[183]`. -/
def execP176 (s : State) : Host.Outcome State Fault Refusal := answerLookup 0xB0#8 s

/-- The entry at offset 184: `TABLE[185]` to `TABLE[191]`. -/
def execP184 (s : State) : Host.Outcome State Fault Refusal := answerLookup 0xB8#8 s

/-- The entry at offset 192: `TABLE[193]` to `TABLE[199]`. -/
def execP192 (s : State) : Host.Outcome State Fault Refusal := answerLookup 0xC0#8 s

/-- The entry at offset 200: `TABLE[201]` to `TABLE[207]`. -/
def execP200 (s : State) : Host.Outcome State Fault Refusal := answerLookup 0xC8#8 s

/-- The entry at offset 208: `TABLE[209]` to `TABLE[215]`. -/
def execP208 (s : State) : Host.Outcome State Fault Refusal := answerLookup 0xD0#8 s

/-- The entry at offset 216: `TABLE[217]` to `TABLE[223]`. -/
def execP216 (s : State) : Host.Outcome State Fault Refusal := answerLookup 0xD8#8 s

/-- The entry at offset 224: `TABLE[225]` to `TABLE[231]`. -/
def execP224 (s : State) : Host.Outcome State Fault Refusal := answerLookup 0xE0#8 s

/-- The entry at offset 232: `TABLE[233]` to `TABLE[239]`. -/
def execP232 (s : State) : Host.Outcome State Fault Refusal := answerLookup 0xE8#8 s

/-- The entry at offset 240: `TABLE[241]` to `TABLE[247]`. -/
def execP240 (s : State) : Host.Outcome State Fault Refusal := answerLookup 0xF0#8 s

end Sys2Proof.Machine
end

