-- ==== Sys2Proof/Machine/Dispatch.lean ====
section
/-! DEFINITION. One arm per constructor of Instr: the step in which the machine takes that word from its port. -/

namespace Sys2Proof.Machine

def exec (i : Instr) (s : State) : Host.Outcome State Fault Refusal :=
  match i with
  | .opInitialize b => Sys2Proof.Machine.execInitialize b s
  | .opQuery p a => Sys2Proof.Machine.execQuery p a s
  | .opEncode p a => Sys2Proof.Machine.execEncode p a s
  | .opDecode => Sys2Proof.Machine.execDecode s
  | .lookup p => Sys2Proof.Machine.execLookup p s
  | .p000 => Sys2Proof.Machine.execP000 s
  | .p008 => Sys2Proof.Machine.execP008 s
  | .p016 => Sys2Proof.Machine.execP016 s
  | .p024 => Sys2Proof.Machine.execP024 s
  | .p032 => Sys2Proof.Machine.execP032 s
  | .p040 => Sys2Proof.Machine.execP040 s
  | .p048 => Sys2Proof.Machine.execP048 s
  | .p056 => Sys2Proof.Machine.execP056 s
  | .p064 => Sys2Proof.Machine.execP064 s
  | .p072 => Sys2Proof.Machine.execP072 s
  | .p080 => Sys2Proof.Machine.execP080 s
  | .p088 => Sys2Proof.Machine.execP088 s
  | .p096 => Sys2Proof.Machine.execP096 s
  | .p104 => Sys2Proof.Machine.execP104 s
  | .p112 => Sys2Proof.Machine.execP112 s
  | .p120 => Sys2Proof.Machine.execP120 s
  | .p128 => Sys2Proof.Machine.execP128 s
  | .p136 => Sys2Proof.Machine.execP136 s
  | .p144 => Sys2Proof.Machine.execP144 s
  | .p152 => Sys2Proof.Machine.execP152 s
  | .p160 => Sys2Proof.Machine.execP160 s
  | .p168 => Sys2Proof.Machine.execP168 s
  | .p176 => Sys2Proof.Machine.execP176 s
  | .p184 => Sys2Proof.Machine.execP184 s
  | .p192 => Sys2Proof.Machine.execP192 s
  | .p200 => Sys2Proof.Machine.execP200 s
  | .p208 => Sys2Proof.Machine.execP208 s
  | .p216 => Sys2Proof.Machine.execP216 s
  | .p224 => Sys2Proof.Machine.execP224 s
  | .p232 => Sys2Proof.Machine.execP232 s
  | .p240 => Sys2Proof.Machine.execP240 s
  | .outMsg m => Sys2Proof.Machine.execOutMsg m s
  | .resp r => Sys2Proof.Machine.execResp r s
  | .entry e => Sys2Proof.Machine.execEntry e s

end Sys2Proof.Machine
end

