-- ==== Sys2Proof/Machine/Sequencer.lean ====
section
/-! DEFINITION. The block's own steps while an operation runs: sending (R124, R127, R164), waiting, reading and
flushing (R144 to R146, R149), decoding (R147). -/

namespace Sys2Proof.Machine

/-- End of sending (R164): QUERY goes on to wait for the response, ENCODE ends with STATUS `OK`. -/
def endOfSending (s : State) : Host.Outcome State Fault Refusal :=
  match s.curop with
  | .query => .next { s with phase := .waitingForResponse }
  | .encode => .next { s with status := .ok, phase := .idle }
  | .init => .fault .sendingWithoutOperation
  | .decode => .fault .sendingWithoutOperation

/-- The step of the block in `Sending`: hand `TXBUF[TXCNT]` to the transport (R124), ending with TransportError if
the write fails (R127); when all eight are out, the end of sending. -/
def sendStep (o : WriteOutcome) (s : State) : Host.Outcome State Fault Refusal :=
  if h : s.txcnt.val < 8 then
    match tWrite o s.txbuf[s.txcnt.val] s with
    | .done _ s' => .next { s' with txcnt := ⟨s.txcnt.val + 1, by omega⟩ }
    | .failed s' => .next (raiseError .transportError s')
    | .blocked => .next s
    | .noMeaning => .refused .transportUnconfigured
  else endOfSending s

/-- The step of the block in `WaitingForResponse`: enabled only when at least 9 bytes are buffered (R144); then it
reads 9 (R145) and flushes (R146), or ends with TransportError if the read fails, without a flush (R149). While it is
not enabled the block polls and nothing changes. Log entry 5. -/
def waitStep (o : ReadOutcome) (s : State) : Host.Outcome State Fault Refusal :=
  match tAvailable s with
  | none => .refused .transportUnconfigured
  | some n =>
    if Config.rxLen ≤ n then
      match tRead9 o s with
      | .done bytes s' => .next { tFlush { s' with rxbuf := bytes } with phase := .decoding }
      | .failed s' => .next (raiseError .transportError s')
      | .blocked => .next s
      | .noMeaning => .refused .transportUnconfigured
    else .next s

/-- The step of the block in `Decoding` (R147). It cannot fail. -/
def decodeStep (s : State) : State :=
  { s with
    result := decodeValue Config.floatWidth s.rxbuf
    resultValid := true
    status := .ok
    phase := .idle }

end Sys2Proof.Machine
end

