-- ==== Sys2Proof/Machine/Step.lean ====
section
/-! DEFINITION. One step of the machine: the environment's turn, then the block's step. -/

namespace Sys2Proof.Machine

/-- The block in `Idle` (R160, R161): it takes the next word, if there is one, and runs it. -/
def idleStep (s : State) : Host.Outcome State Fault Refusal :=
  match fetch s with
  | none => .next s
  | some (w, s') =>
    match decode w with
    | .instr i => exec i s'
    | .illegal e => .next (rejectWord e s')

/-- The block's step in each phase (R163, R165, R169). -/
def blockStep (t : EnvTurn) (s : State) : Host.Outcome State Fault Refusal :=
  match s.phase with
  | .idle => idleStep s
  | .sending => sendStep t.write s
  | .waitingForResponse => waitStep t.read s
  | .decoding => .next (decodeStep s)

/-- One step: the other agents' moves of this turn; then the reset event if it occurs (R200), and otherwise the
block's step. Log entry 4. -/
def step (s : State) : Host.Outcome State Fault Refusal :=
  let t := nextTurn s
  let s1 := absorb t s
  if t.reset then .next (resetEvent s1) else blockStep t s1

/-- `s` with a word placed where the block takes its next one (a command word at the head of the port, a word of
another format on the bench), the block `Idle` and the next turn quiet, so that the next step takes and runs exactly
that word. A width the machine has no format for changes nothing. Log entry 13. -/
def State.withFetchWord (s : State) (nbits w : Nat) : State :=
  match tableWord nbits w with
  | some (.cw c) => { s with port := c :: s.port, bench := none, phase := .idle, env := EnvTurn.quiet :: s.env }
  | some (.fmt f) => { s with bench := some f, phase := .idle, env := EnvTurn.quiet :: s.env }
  | none => s

end Sys2Proof.Machine
end

