-- ==== Sys2Proof/Safety.lean ====
section
/-! DEFINITION. What claims about the block are stated in terms of: the launch premises of R222, the invariant of
every run, and what a safe step is. -/

namespace Sys2Proof.Machine

/-- `P_CONFIGURED` (R203, R222). -/
abbrev State.Configured (s : State) : Prop := s.config ≠ none

/-- `P_IDLE` (R222). -/
abbrev State.Idle (s : State) : Prop := s.phase = .idle

/-- `P_CLEAN_RX` (R212, R222). -/
abbrev State.CleanRx (s : State) : Prop := s.rxfifo = []

/-- The environment's next turn holds no reset event. -/
abbrev State.NoReset (s : State) : Prop := (nextTurn s).reset = false

/-- `P_NO_FAIL` (R177, R222) for a turn, with no reset event in it. -/
abbrev EnvTurn.NoFail (t : EnvTurn) : Prop := t.reset = false ∧ t.write = .accepted ∧ t.read = .delivered

/-- The bytes the meter sends during some turns, oldest first. -/
def arrivals (ts : List EnvTurn) : List Byte := ts.flatMap EnvTurn.arrive

/-- The command words the caller offers during some turns, first offered first. -/
def offers (ts : List EnvTurn) : List CommandWord := ts.flatMap EnvTurn.offer

/-- The frame of a valid ParameterId and an address as a pure function, `EncodeFrame(p, a)` (R123), by the bytes of
the machine's table. -/
def encodeFrame (m : Memory) (p a : Byte) : List Byte :=
  [a, m.byte (p.toNat + 1), m.byte (p.toNat + 2), m.byte (p.toNat + 3), m.byte (p.toNat + 4),
    m.byte (p.toNat + 5), m.byte (p.toNat + 6), m.byte (p.toNat + 7)]

/-- What holds in every state of every run. -/
structure State.Inv (s : State) : Prop where
  /-- The table's known bytes are in canonical form. -/
  table_wf : s.table.wf = true
  /-- RESULT_VALID is 1 only in `Idle`, after an operation without error, with RESULT the value decoded from RXBUF
  (R29, R30). That RXBUF still holds its bytes in `Idle` is the model's choice among those R27 allows: log entry 16. -/
  valid_result : s.resultValid = true →
    s.phase = .idle ∧ s.status = .ok ∧ s.result = decodeValue Config.floatWidth s.rxbuf
  /-- "`CUROP` has no other value in `Sending`" (R164). -/
  sending_curop : s.phase = .sending → s.curop = .query ∨ s.curop = .encode
  /-- A response is awaited and decoded for QUERY and DECODE alone (R161, R164). -/
  receiving_curop : s.phase = .waitingForResponse ∨ s.phase = .decoding → s.curop = .query ∨ s.curop = .decode
  /-- The first TXCNT bytes of TXBUF are the latest bytes of T.TXLOG (R124). -/
  sent_bytes : s.phase = .sending → s.txbuf.toList.take s.txcnt.val <:+ s.txlog
  /-- While a QUERY awaits or decodes its response, its whole frame is the latest of T.TXLOG (R66). -/
  sent_frame : (s.phase = .waitingForResponse ∨ s.phase = .decoding) → s.curop = .query →
    s.txbuf.toList <:+ s.txlog
  /-- The reserved codes are never raised (R178, R179). -/
  no_reserved_status : s.status ≠ .timeout ∧ s.status ≠ .shortRead

/-- `n` steps of the machine, stopping at the first fault or refusal. -/
def run (n : Nat) (s : State) : Host.Outcome State Fault Refusal := Host.Core.run Sys2Proof.core n s

/-- A step that gives a next state: neither a fault nor a refusal. -/
def State.SafeStep (s : State) : Prop := ∃ s', step s = .next s'

end Sys2Proof.Machine
end

