-- ==== Sys2Proof/Certificates/Slice0/Obligations.lean ====
section
/-! DEFINITION. The statements for the provers, grouped as the spec is: encodings, the accept step, the lookup and
the formats, the block's own steps, errors and reset, whole operations, invariants. Each docstring names the rule it
formalises; OBLIGATIONS.json lists them. -/

namespace Sys2Proof.Machine

/-- The 31 rows of the ParameterIds, each with its table offset, written out from spec/opcode_table.json. -/
def parameterRows : List (Instr × Nat) :=
  [(.p000, 0), (.p008, 8), (.p016, 16), (.p024, 24), (.p032, 32), (.p040, 40),
   (.p048, 48), (.p056, 56), (.p064, 64), (.p072, 72), (.p080, 80), (.p088, 88),
   (.p096, 96), (.p104, 104), (.p112, 112), (.p120, 120)] ++
  [(.p128, 128), (.p136, 136), (.p144, 144), (.p152, 152), (.p160, 160), (.p168, 168),
   (.p176, 176), (.p184, 184), (.p192, 192), (.p200, 200), (.p208, 208), (.p216, 216),
   (.p224, 224), (.p232, 232), (.p240, 240)]

/-- Template bytes 1 to 7 of the entry at offset `p`, one by one. -/
def templateBytes (m : Memory) (p : Nat) : Template :=
  #v[m.byte (p + 1), m.byte (p + 2), m.byte (p + 3), m.byte (p + 4), m.byte (p + 5), m.byte (p + 6), m.byte (p + 7)]

/-- The frame of offset `p` and address `a` as TXBUF holds it, byte by byte (R85). -/
def frameBytes (m : Memory) (p : Nat) (a : Byte) : Frame :=
  #v[a, m.byte (p + 1), m.byte (p + 2), m.byte (p + 3), m.byte (p + 4), m.byte (p + 5), m.byte (p + 6), m.byte (p + 7)]

/-- The last four received bytes as one pattern, byte 5 most significant (R141). -/
def lastFour (r : Payload) : BitVec 32 := r[5] ++ r[6] ++ r[7] ++ r[8]

/-- `s` with its transient registers holding anything at all (R27). -/
def withTransients (s : State) (c : OpCode) (p a : Byte) (n : Fin 9) (tx : Frame) (rx : Payload) : State :=
  { s with curop := c, param := p, saddr := a, txcnt := n, txbuf := tx, rxbuf := rx }

end Sys2Proof.Machine

open Sys2Proof Sys2Proof.Machine

/-! ## Encodings -/

/-- R81 and R90: every command word by its fields, whatever its reserved bits hold. -/
def Obligations.CommandWordFieldsDecode : Prop :=
  (∀ b : BitVec 32, decode (.cw (0#2 ++ b)) = .instr (.opInitialize b)) ∧
  (∀ (x : BitVec 16) (p a : Byte), decode (.cw (1#2 ++ x ++ p ++ a)) = .instr (.opQuery p a)) ∧
  (∀ (x : BitVec 16) (p a : Byte), decode (.cw (2#2 ++ x ++ p ++ a)) = .instr (.opEncode p a)) ∧
  (∀ x : BitVec 32, decode (.cw (3#2 ++ x)) = .instr .opDecode)

/-- Words written out from 30_encoding.md and 95_test_vectors.md 2.5 decode to the instructions they stand for. -/
def Obligations.WrittenOutWordsDecode : Prop :=
  decode (.cw 0x000002580#34) = .instr (.opInitialize 9600#32) ∧
  decode (.cw 0x10000F0FE#34) = .instr (.opQuery 0xF0#8 0xFE#8) ∧
  decode (.cw 0x1ABCD0005#34) = .instr (.opQuery 0x00#8 0x05#8) ∧
  decode (.cw 0x200000801#34) = .instr (.opEncode 0x08#8 0x01#8) ∧
  decode (.cw 0x3FFFFFFFF#34) = .instr .opDecode ∧
  decode (.fmt (.pid 0x78#8)) = .instr .p120 ∧
  decode (.fmt (.outBits 0x0501020304050607#64)) =
    .instr (.outMsg #v[0x05#8, 0x01#8, 0x02#8, 0x03#8, 0x04#8, 0x05#8, 0x06#8, 0x07#8]) ∧
  decode (.fmt (.respBits 0x414141414143480000#72)) =
    .instr (.resp #v[0x41#8, 0x41#8, 0x41#8, 0x41#8, 0x41#8, 0x43#8, 0x48#8, 0x00#8, 0x00#8])

/-- Every instruction, with every value of every operand: decoding its encoding gives it back. -/
def Obligations.DecodeEncodeRoundTrip : Prop :=
  ∀ i : Instr, decode (encode i) = .instr i

/-- R83 in both its forms, with its count of 31 values; and a ParameterId word is rejected exactly where it is not
valid (R82, R91). -/
def Obligations.ValidParamIsTrueOf31Values : Prop :=
  (∀ p : Byte, validParam p = true ↔ p.extractLsb' 0 3 = 0#3 ∧ p.toNat ≤ 240) ∧
  (∀ p : Byte, validParam p = true ↔ p.extractLsb' 0 3 = 0#3 ∧ p.extractLsb' 3 5 ≠ 31#5) ∧
  ((List.range 256).filter fun n => validParam (BitVec.ofNat 8 n)).length = 31 ∧
  (∀ p : Byte, validParam p = true ↔ decode (.fmt (.pid p)) ≠ .illegal .invalidParameterId)

/-! ## The lookup and the formats -/

/-- R110 and R112: template bytes 1 to 7, at `p+1` to `p+7`, or InvalidParameter. -/
def Obligations.LookupReturnsTemplateOneToSeven : Prop :=
  ∀ (m : Memory) (p : Byte),
    (validParam p = true → lookupTemplate m p = .ok (templateBytes m p.toNat)) ∧
    (validParam p = false → lookupTemplate m p = .error .invalidParameter)

/-- A stand-alone LOOKUP answers the template and changes no register, or takes the InvalidParameter error (R110,
R184). That it can be presented by hand, and that `lookupOut` shows its answer, is the model's choice: log entry 10. -/
def Obligations.LookupAnswersOrRaises : Prop :=
  ∀ (s : State) (p : Byte),
    (validParam p = true → exec (.lookup p) s = .next { s with lookupOut := some (templateBytes s.table p.toNat) }) ∧
    (validParam p = false →
      exec (.lookup p) s = .next { s with status := .invalidParameter, resultValid := false, phase := .idle })

/-- Every ParameterId `P000` to `P240` completes, answering the template bytes of the entry at its own offset and
changing nothing else (R82, R110). The answer's place is the model's choice: log entry 10. -/
def Obligations.ParameterRowsAnswerTheirEntry : Prop :=
  ∀ r ∈ parameterRows, ∀ s : State, exec r.1 s = .next { s with lookupOut := some (templateBytes s.table r.2) }

/-- ENTRY: template bytes 1 to 7 are answered, byte 0 is not used (R84); two entries that differ in byte 0 alone act
alike. The answer's place is the model's choice: log entry 10. -/
def Obligations.EntryByteZeroIsUnused : Prop :=
  (∀ (e : Entry) (s : State),
    exec (.entry e) s = .next { s with lookupOut := some #v[e[1], e[2], e[3], e[4], e[5], e[6], e[7]] }) ∧
  (∀ (e : Entry) (b : Byte) (s : State), exec (.entry (e.set 0 b)) s = exec (.entry e) s)

/-- OUT: the message's bytes are answered in wire order, the byte sent first at index 0, and nothing is sent (R85); byte
`k` is bits `63-8k` to `56-8k` of the word. That a message can be presented by hand, and that `wireOut` shows it, is
the model's choice: log entry 11. -/
def Obligations.OutgoingMessageIsShownInWireOrder : Prop :=
  (∀ (m : Frame) (s : State), exec (.outMsg m) s = .next { s with wireOut := some m }) ∧
  (∀ w : BitVec 64, ∃ m : Frame, decode (.fmt (.outBits w)) = .instr (.outMsg m) ∧
    ∀ k : Fin 8, m[k.val] = w.extractLsb' (56 - 8 * k.val) 8)

/-- The frame of `p, a` presented as an OUT word is answered as the very bytes that the accepted ENCODE `p, a` puts
into TXBUF to be sent in order (R85, R122, R123). The OUT word is the model's choice: log entry 11. -/
def Obligations.OutOfAFrameIsItsEncode : Prop :=
  ∀ (s : State) (p a : Byte), validParam p = true → ∃ t u : State,
    exec (.outMsg (frameBytes s.table p.toNat a)) s = .next t ∧ exec (.opEncode p a) s = .next u ∧
    t.wireOut = some u.txbuf ∧ u.txbuf.toList = encodeFrame s.table p a

/-- RESP: the nine bytes join the tail of T.RXFIFO in order of arrival (R37, R40, R62). That they can be presented as
a word is the model's choice: log entry 12. -/
def Obligations.ResponsePayloadJoinsReceiveBuffer : Prop :=
  ∀ (r : Payload) (s : State), exec (.resp r) s = .next
    { s with rxfifo := s.rxfifo ++ [r[0], r[1], r[2], r[3], r[4], r[5], r[6], r[7], r[8]] }

/-! ## The accept step -/

/-- R162. -/
def Obligations.InitializeConfiguresTransport : Prop :=
  ∀ (b : BitVec 32) (s : State), exec (.opInitialize b) s = .next
    { s with config := some { baud := b, dataBits := 8, parity := .even, stopBits := 1 }, status := .ok }

/-- R122 in the accept step of R161: QUERY and ENCODE with a valid ParameterId, whatever the slave address. -/
def Obligations.ValidQueryAndEncodeAssembleFrame : Prop :=
  ∀ (s : State) (p a : Byte), validParam p = true →
    exec (.opQuery p a) s = .next
      { s with
        curop := .query, param := p, saddr := a, resultValid := false
        txbuf := frameBytes s.table p.toNat a, txcnt := 0, phase := .sending } ∧
    exec (.opEncode p a) s = .next
      { s with
        curop := .encode, param := p, saddr := a, resultValid := false
        txbuf := frameBytes s.table p.toNat a, txcnt := 0, phase := .sending }

/-- R121 and R125: QUERY and ENCODE with an invalid ParameterId end in the accept step with InvalidParameter; the
transport is not touched, whatever it would have done. -/
def Obligations.InvalidQueryAndEncodeWriteNothing : Prop :=
  ∀ (s : State) (p a : Byte), validParam p = false →
    exec (.opQuery p a) s = .next
      { s with
        curop := .query, param := p, saddr := a, resultValid := false
        status := .invalidParameter, phase := .idle } ∧
    exec (.opEncode p a) s = .next
      { s with
        curop := .encode, param := p, saddr := a, resultValid := false
        status := .invalidParameter, phase := .idle }

/-- DECODE is accepted (R161, `op = 3`): the block goes to wait, and nothing else changes. -/
def Obligations.DecodeGoesToWait : Prop :=
  ∀ s : State, exec .opDecode s = .next
    { s with curop := .decode, resultValid := false, phase := .waitingForResponse }

/-- A step in `Idle` takes one word, after the other agents' moves of its turn, and is `exec` of the instruction it
decodes to: the command word offered first (R160, R161; that the port is a queue is log entry 29), or a word of another
format presented by hand, which goes first (log entry 13). -/
def Obligations.StepRunsTheDecodedInstruction : Prop :=
  ∀ (s : State) (i : Instr), s.NoReset → s.phase = .idle →
    (∀ (w : CommandWord) (rest : List CommandWord),
      s.bench = none → s.port ++ (nextTurn s).offer = w :: rest → decode (.cw w) = .instr i →
      step s = exec i { s with port := rest, rxfifo := s.rxfifo ++ (nextTurn s).arrive, env := s.env.tail }) ∧
    (∀ f : FormatWord, s.bench = some f → decode (.fmt f) = .instr i →
      step s = exec i
        { s with
          bench := none, port := s.port ++ (nextTurn s).offer
          rxfifo := s.rxfifo ++ (nextTurn s).arrive, env := s.env.tail })

/-- A ParameterId word that is not one of the 31 takes the InvalidParameter error (R91, R176). That it can be
presented by hand is the model's choice: log entry 25. -/
def Obligations.RejectedParameterIdRaises : Prop :=
  ∀ (s : State) (p : Byte),
    s.NoReset → s.phase = .idle → s.bench = some (.pid p) → validParam p = false →
    step s = .next
      { absorb (nextTurn s) s with
        bench := none, status := .invalidParameter, resultValid := false, phase := .idle }

/-- The opcode table's words: a word placed for the next step is run by the next step, on the state it was placed in
(log entry 13: how a program comes to run is the model's choice). -/
def Obligations.PlacedTableWordRuns : Prop :=
  ∀ (s : State) (nbits w : Nat) (i : Instr), decodeTableWord nbits w = some i →
    step (s.withFetchWord nbits w) = exec i { s with phase := .idle, bench := none }

/-- R160 and R218: while the block is busy no offered word is taken and none is lost, however many there are and in
their order (that the port is a queue is the model's choice: log entry 29). -/
def Obligations.BusyBlockHoldsOfferedCommands : Prop :=
  ∀ s t : State, s.NoReset → s.phase ≠ .idle → step s = .next t →
    t.port = s.port ++ (nextTurn s).offer ∧ t.bench = s.bench

/-- In `Idle` with nothing offered the block does nothing; only the meter's bytes arrive (R40, R160; the idle turn is
the model's: log entry 5). -/
def Obligations.IdleBlockWithoutCommandRests : Prop :=
  ∀ s : State, s.NoReset → s.phase = .idle → s.bench = none → s.port ++ (nextTurn s).offer = [] →
    step s = .next { s with port := [], rxfifo := s.rxfifo ++ (nextTurn s).arrive, env := s.env.tail }

/-! ## Sending -/

/-- R124: the send step hands exactly `TXBUF[TXCNT]` to the transport. -/
def Obligations.SendStepHandsOverOneByte : Prop :=
  ∀ (s : State) (h : s.txcnt.val < 8),
    s.NoReset → s.phase = .sending → s.Configured → (nextTurn s).write = .accepted →
    step s = .next
      { absorb (nextTurn s) s with
        txlog := s.txlog ++ [s.txbuf[s.txcnt.val]]
        txcnt := ⟨s.txcnt.val + 1, Nat.succ_lt_succ h⟩ }

/-- R127: a write that fails ends the operation with TransportError; what was sent stays, and the failing byte is out
or not, as the environment chose. -/
def Obligations.FailedWriteEndsWithTransportError : Prop :=
  ∀ (s : State) (h : s.txcnt.val < 8) (landed : Bool),
    s.NoReset → s.phase = .sending → s.Configured → (nextTurn s).write = .failed landed →
    step s = .next
      { absorb (nextTurn s) s with
        txlog := s.txlog ++ (if landed then [s.txbuf[s.txcnt.val]] else [])
        status := .transportError, resultValid := false, phase := .idle }

/-- R164, on the states of `Sending` whose CUROP a run can reach. That an ended ENCODE leaves CUROP, PARAM, SADDR,
TXCNT and RXBUF as they were is the model's choice among those R27 allows: log entry 16. -/
def Obligations.EndOfSendingSplitsByOperation : Prop :=
  ∀ s : State, s.NoReset → s.phase = .sending → s.txcnt.val = 8 →
    (s.curop = .query → step s = .next { absorb (nextTurn s) s with phase := .waitingForResponse }) ∧
    (s.curop = .encode → step s = .next { absorb (nextTurn s) s with status := .ok, phase := .idle })

/-! ## Waiting, reading, decoding -/

/-- R144: while fewer than 9 bytes are buffered the block does nothing observable (only the environment's turn
passes; that such a turn is a step is the model's choice: log entry 5); as soon as there are 9 or more the wait
ends. -/
def Obligations.WaitEndsExactlyWithTheNinthByte : Prop :=
  ∀ s : State, s.NoReset → s.phase = .waitingForResponse → s.Configured →
    ((s.rxfifo ++ (nextTurn s).arrive).length < 9 →
      step s = .next
        { s with
          rxfifo := s.rxfifo ++ (nextTurn s).arrive, port := s.port ++ (nextTurn s).offer, env := s.env.tail }) ∧
    (9 ≤ (s.rxfifo ++ (nextTurn s).arrive).length →
      ∃ t : State, step s = .next t ∧ t.phase ≠ .waitingForResponse)

/-- R145 and R146: the nine oldest bytes are read in order of arrival and every other buffered byte is flushed. -/
def Obligations.NineOldestBytesAreReadAndRestFlushed : Prop :=
  ∀ (s : State) (r : Payload) (surplus : List Byte),
    s.NoReset → s.phase = .waitingForResponse → s.Configured → (nextTurn s).read = .delivered →
    s.rxfifo ++ (nextTurn s).arrive = r.toList ++ surplus →
    step s = .next { absorb (nextTurn s) s with rxbuf := r, rxfifo := [], phase := .decoding }

/-- R149: a read that fails ends the operation with TransportError, without a flush and without a result; 0 to 9 of
the oldest bytes are gone. What RXBUF then holds is a free value. -/
def Obligations.FailedReadEndsWithoutResult : Prop :=
  ∀ (s : State) (k : Fin 10),
    s.NoReset → s.phase = .waitingForResponse → s.Configured → (nextTurn s).read = .failed k →
    9 ≤ (s.rxfifo ++ (nextTurn s).arrive).length →
    ∃ v : Payload, step s = .next
      { absorb (nextTurn s) s with
        rxfifo := (s.rxfifo ++ (nextTurn s).arrive).drop k.val
        rxbuf := v, freeCount := s.freeCount + 1
        status := .transportError, resultValid := false, phase := .idle }

/-- R147, with the value of R141. That CUROP, PARAM, SADDR, TXCNT, TXBUF and RXBUF stay as they were in `Idle` is the
model's choice among those R27 allows: log entry 16. -/
def Obligations.DecodeStepDeliversLastFourBytes : Prop :=
  ∀ s : State, s.NoReset → s.phase = .decoding → step s = .next
    { absorb (nextTurn s) s with
      result := lastFour s.rxbuf, resultValid := true, status := .ok, phase := .idle }

/-- R138, R141, R142: the 8-byte word and both readings of it. -/
def Obligations.DecodedValueIsTheBigEndianTail : Prop :=
  ∀ r : Payload,
    responseWord r = r[1] ++ r[2] ++ r[3] ++ r[4] ++ r[5] ++ r[6] ++ r[7] ++ r[8] ∧
    decodeValue .w32 r = r[5] ++ r[6] ++ r[7] ++ r[8] ∧
    decodeValue .w64 r = responseWord r ∧
    decodeValue .w32 r = (decodeValue .w64 r).extractLsb' 0 32 ∧
    overrunByte r = r[0]

/-- R139: the original's reversed bytes read little-endian are the word read big-endian. -/
def Obligations.ReversedBytesReadLittleEndianAgree : Prop :=
  ∀ r : Payload,
    (∀ j : Fin 9, (reversedBytes r)[j.val] = r[8 - j.val]) ∧
    (responseWord r).toNat = ∑ j : Fin 8, (reversedBytes r)[j.val].toNat * 256 ^ j.val

/-- R143: the value is the four bytes, bit for bit; two responses give the same value only if those four agree, and
nothing else in them matters. -/
def Obligations.ValueDependsOnLastFourBytesExactly : Prop :=
  ∀ r r' : Payload, decodeValue32 r = decodeValue32 r' ↔
    r[5] = r'[5] ∧ r[6] = r'[6] ∧ r[7] = r'[7] ∧ r[8] = r'[8]

/-- Stale bytes ahead of a response shift the frame without an error (R70, R212). -/
def Obligations.StaleBytesShiftTheResponse : Prop :=
  ∀ (s : State) (response : Payload),
    s.NoReset → s.phase = .waitingForResponse → s.Configured → (nextTurn s).read = .delivered →
    s.rxfifo.length < 9 → (nextTurn s).arrive = response.toList →
    ∃ t : State, step s = .next t ∧ t.phase = .decoding ∧ t.rxfifo = [] ∧ t.status = s.status ∧
      t.rxbuf.toList = s.rxfifo ++ response.toList.take (9 - s.rxfifo.length)

/-- The numbers 95_test_vectors.md gives for three patterns: 200.0, -2.5 and 2^-149 (R143; the layout is general
knowledge, log entry 23). -/
def Obligations.FloatReadingOfKnownPatterns : Prop :=
  floatReading .w32 0x43480000#32 = .finite false 13107200 (-16) ∧
  floatReading .w32 0xC0200000#32 = .finite true 10485760 (-22) ∧
  floatReading .w32 0x00000001#32 = .finite false 1 (-149) ∧
  floatReading .w32 0x7F800000#32 = .infinity false ∧
  floatReading .w32 0x7FC00001#32 = .nan

/-! ## Errors, refusals, reset -/

/-- On an unconfigured transport the block's transport calls have no meaning and the model refuses them (R203,
93_implementation_defined.md U1; where the refusal falls is log entry 7). -/
def Obligations.UnconfiguredTransportCallIsRefused : Prop :=
  ∀ s : State, s.NoReset → s.config = none →
    (s.phase = .sending ∧ s.txcnt.val < 8 ∨ s.phase = .waitingForResponse) →
    step s = .refused .transportUnconfigured

/-- R200: the reset event, in any phase. That T.TXLOG and T.RXFIFO keep their bytes is R202, with the reading of log
entry 27. What the unspecified registers hold is not stated. -/
def Obligations.ResetEventReturnsToIdle : Prop :=
  ∀ s : State, (nextTurn s).reset = true → ∃ t : State, step s = .next t ∧
    t.phase = .idle ∧ t.status = .ok ∧ t.resultValid = false ∧ t.config = none ∧
    t.table = s.table ∧ t.txlog = s.txlog ∧ t.rxfifo = s.rxfifo ++ (nextTurn s).arrive

/-- The values the spec gives the machine after reset (R21, R30, R31, R36, R38), by their codes. -/
def Obligations.ResetStateHoldsSpecValues : Prop :=
  State.reset.phase.code = 0 ∧ State.reset.status.code = 0 ∧ State.reset.resultValid = false ∧
  State.reset.config = none ∧ State.reset.txlog = [] ∧ State.reset.busy = false

/-- What the caller can read (R95): nothing while busy; STATUS always; the result exactly when it is valid and the
operation was a QUERY or a DECODE; the message exactly after an ENCODE that ended `OK`; after INITIALIZE nothing but
STATUS. Which operation ended is the caller's own knowledge: log entry 24. -/
def Obligations.CompletionRecordShowsEndedOperation : Prop :=
  ∀ (op : OpCode) (s : State),
    (completionRecord op s = none ↔ s.phase ≠ .idle) ∧
    (∀ c, completionRecord op s = some c →
      c.status = s.status ∧
      ((op = .query ∨ op = .decode) ∧ s.resultValid = true → c.result = some s.result) ∧
      (¬((op = .query ∨ op = .decode) ∧ s.resultValid = true) → c.result = none) ∧
      (op = .encode ∧ s.status = .ok → c.message = some s.txbuf) ∧
      (¬(op = .encode ∧ s.status = .ok) → c.message = none) ∧
      (op = .init → c = { status := s.status, result := none, message := none }))

/-! ## Whole operations -/

/-- R166: a QUERY on a configured transport that fails no call, with at least 9 bytes there by the read, ends after
twelve steps with the whole frame sent and the value of the nine oldest bytes; stated with everything else it does to
the state, whatever the environment does meanwhile. What the transient registers hold at the end is the model's choice
among those R27 allows (log entry 16), and that the port is a queue is log entry 29. -/
def Obligations.QueryRunDeliversMeasurement : Prop :=
  ∀ (s : State) (x : BitVec 16) (p a : Byte) (rest : List CommandWord) (ts later : List EnvTurn) (r : Payload)
    (surplus : List Byte),
    s.phase = .idle → s.bench = none → s.Configured → validParam p = true →
    s.port = commandWord 1#2 x p a :: rest →
    s.env = ts ++ later → ts.length = 12 → (∀ t ∈ ts, t.NoFail) →
    s.rxfifo ++ arrivals (ts.take 11) = r.toList ++ surplus →
    run 12 s = .next
      { s with
        phase := .idle, curop := .query, param := p, saddr := a, txcnt := 8
        txbuf := frameBytes s.table p.toNat a, rxbuf := r
        result := lastFour r, resultValid := true, status := .ok
        txlog := s.txlog ++ encodeFrame s.table p a, rxfifo := arrivals (ts.drop 11)
        port := rest ++ offers ts, env := later }

/-- R120, R123 and R126: an ENCODE on a configured transport that fails no write ends after ten steps with exactly its
frame sent, TXBUF holding it, the received bytes untouched. What the other transient registers hold at the end is the
model's choice among those R27 allows (log entry 16), and that the port is a queue is log entry 29. -/
def Obligations.EncodeRunSendsExactlyItsFrame : Prop :=
  ∀ (s : State) (x : BitVec 16) (p a : Byte) (rest : List CommandWord) (ts later : List EnvTurn),
    s.phase = .idle → s.bench = none → s.Configured → validParam p = true →
    s.port = commandWord 2#2 x p a :: rest →
    s.env = ts ++ later → ts.length = 10 → (∀ t ∈ ts, t.NoFail) →
    run 10 s = .next
      { s with
        phase := .idle, curop := .encode, param := p, saddr := a, txcnt := 8
        txbuf := frameBytes s.table p.toNat a, resultValid := false, status := .ok
        txlog := s.txlog ++ encodeFrame s.table p a, rxfifo := s.rxfifo ++ arrivals ts
        port := rest ++ offers ts, env := later }

/-- R135 and R150: a DECODE with at least 9 bytes there by the read ends after three steps with the value of the nine
oldest. What the transient registers hold at the end is the model's choice among those R27 allows (log entry 16), and
that the port is a queue is log entry 29. -/
def Obligations.DecodeRunDeliversMeasurement : Prop :=
  ∀ (s : State) (x : BitVec 32) (rest : List CommandWord) (ts later : List EnvTurn) (r : Payload)
    (surplus : List Byte),
    s.phase = .idle → s.bench = none → s.Configured → s.port = (3#2 ++ x) :: rest →
    s.env = ts ++ later → ts.length = 3 → (∀ t ∈ ts, t.NoFail) →
    s.rxfifo ++ arrivals (ts.take 2) = r.toList ++ surplus →
    run 3 s = .next
      { s with
        phase := .idle, curop := .decode, rxbuf := r
        result := lastFour r, resultValid := true, status := .ok
        rxfifo := arrivals (ts.drop 2), port := rest ++ offers ts, env := later }

/-- R213: however long, as long as fewer than 9 bytes have come, the block stays in `WaitingForResponse`, takes no
command and reports nothing. That the stuck block's turns are steps is the model's choice: log entry 5. -/
def Obligations.WaitIsUnboundedBelowNineBytes : Prop :=
  ∀ (s : State) (ts later : List EnvTurn),
    s.phase = .waitingForResponse → s.Configured → s.env = ts ++ later →
    (∀ t ∈ ts, t.reset = false) → (s.rxfifo ++ arrivals ts).length < 9 →
    run ts.length s = .next
      { s with rxfifo := s.rxfifo ++ arrivals ts, port := s.port ++ offers ts, env := later }

/-- R94 and R166: QUERY is ENCODE, followed, if and only if that ended `OK`, by DECODE, with no other operation accepted
in between, for every arrival of bytes and every failure of a transport call. The ENCODE runs over the ten turns it can
last. If it ends in an error, whatever the error, QUERY over the same turns ends so too, in the same state but for
CUROP (bytes that arrive later lie in both receive buffers). If it ends `OK`, the DECODE is accepted in a quiet turn
and goes on over QUERY's further turns: at every moment the two agree in everything but CUROP and the STATUS not yet
reported, and in STATUS too as soon as the QUERY has ended. That the transient registers agree in `Idle` rests on log
entry 16, and that a waiting block's turns are steps on log entry 5. -/
def Obligations.QueryIsEncodeThenDecode : Prop :=
  ∀ (s : State) (x x' : BitVec 16) (y : BitVec 32) (p a : Byte) (ts us : List EnvTurn),
    s.phase = .idle → s.bench = none → s.Configured → ts.length = 10 →
    (∀ t ∈ ts ++ us, t.reset = false ∧ t.offer = []) →
    ∃ e u : State,
      run 10 { s with port := [commandWord 2#2 x p a], env := ts } = .next e ∧ e.phase = .idle ∧
      run (10 + us.length) { s with port := [commandWord 1#2 x' p a], env := ts ++ us } = .next u ∧
      (e.status ≠ .ok → { u with curop := .encode } = { e with rxfifo := e.rxfifo ++ arrivals us }) ∧
      (e.status = .ok → ∃ v : State,
        run (1 + us.length) { e with port := [3#2 ++ y], env := EnvTurn.quiet :: us } = .next v ∧
        { u with curop := .decode, status := v.status } = v ∧ (u.phase = .idle ↔ v.phase = .idle) ∧
        (u.phase = .idle → u.status = v.status))

/-- R67: two QUERYs one after the other never interleave their transport writes; the first frame is whole before the
second. That the second command waits in a queue is the model's choice: log entry 29. -/
def Obligations.TwoQueriesNeverInterleave : Prop :=
  ∀ (s : State) (x x' : BitVec 16) (p a p' a' : Byte) (ts ts' later : List EnvTurn) (r r' : Payload) (surplus surplus' : List Byte),
    s.phase = .idle → s.bench = none → s.Configured → validParam p = true → validParam p' = true →
    s.port = [commandWord 1#2 x p a, commandWord 1#2 x' p' a'] →
    s.env = ts ++ (ts' ++ later) → ts.length = 12 → ts'.length = 12 →
    (∀ t ∈ ts, t.NoFail) → (∀ t ∈ ts', t.NoFail) →
    s.rxfifo ++ arrivals (ts.take 11) = r.toList ++ surplus →
    arrivals (ts.drop 11) ++ arrivals (ts'.take 11) = r'.toList ++ surplus' →
    ∃ t : State, run 24 s = .next t ∧ t.phase = .idle ∧ t.result = lastFour r' ∧
      t.txlog = s.txlog ++ encodeFrame s.table p a ++ encodeFrame s.table p' a'

/-- R27: what the transient registers held before a QUERY is accepted has no effect on anything it leaves
(with the port as a queue, log entry 29, and the registers kept in `Idle`, log entry 16). -/
def Obligations.TransientRegistersCarryNothing : Prop :=
  ∀ (s : State) (c : OpCode) (p₀ a₀ : Byte) (n : Fin 9) (tx : Frame) (rx : Payload)
    (x : BitVec 16) (p a : Byte) (rest : List CommandWord) (ts later : List EnvTurn) (r : Payload)
    (surplus : List Byte),
    s.phase = .idle → s.bench = none → s.Configured → validParam p = true →
    s.port = commandWord 1#2 x p a :: rest →
    s.env = ts ++ later → ts.length = 12 → (∀ t ∈ ts, t.NoFail) →
    s.rxfifo ++ arrivals (ts.take 11) = r.toList ++ surplus →
    run 12 (withTransients s c p₀ a₀ n tx rx) = run 12 s

/-- R167: the ways a QUERY can complete, and the one way it does not, for every behaviour of the meter and every
failure of the transport's calls, at every moment from the accept step on. That RXBUF still holds the response in
`Idle` is log entry 16, and that a waiting block's turns are steps is log entry 5. -/
def Obligations.QueryHasOnlyTheseOutcomes : Prop :=
  ∀ (s : State) (x : BitVec 16) (p a : Byte) (ts later : List EnvTurn),
    s.phase = .idle → s.bench = none → s.Configured → s.port = [commandWord 1#2 x p a] → s.env = ts ++ later → ts ≠ [] →
    (∀ t ∈ ts, t.reset = false ∧ t.offer = []) →
    ∃ t : State, run ts.length s = .next t ∧
      (validParam p = false → t.phase = .idle ∧ t.status = .invalidParameter ∧ t.resultValid = false ∧
        t.txlog = s.txlog ∧ t.rxfifo = s.rxfifo ++ arrivals ts) ∧
      (validParam p = true →
        -- still running
        (t.phase ≠ .idle ∧ t.resultValid = false ∧
          (t.phase = .waitingForResponse →
            t.txlog = s.txlog ++ encodeFrame s.table p a ∧ t.rxfifo = s.rxfifo ++ arrivals ts)) ∨
        -- success
        (t.phase = .idle ∧ t.status = .ok ∧ t.resultValid = true ∧ t.result = lastFour t.rxbuf ∧
          t.txlog = s.txlog ++ encodeFrame s.table p a ∧
          ∃ j ≤ ts.length, t.rxbuf.toList <+: s.rxfifo ++ arrivals (ts.take j) ∧
            t.rxfifo = arrivals (ts.drop j)) ∨
        -- transport failure in send
        (t.phase = .idle ∧ t.status = .transportError ∧ t.resultValid = false ∧
          (∃ k ≤ 8, t.txlog = s.txlog ++ (encodeFrame s.table p a).take k) ∧
          t.rxfifo = s.rxfifo ++ arrivals ts) ∨
        -- transport failure in read
        (t.phase = .idle ∧ t.status = .transportError ∧ t.resultValid = false ∧
          t.txlog = s.txlog ++ encodeFrame s.table p a ∧
          ∃ k ≤ 9, t.rxfifo = (s.rxfifo ++ arrivals ts).drop k))

/-! ## Invariants and whole-machine rules -/

/-- The invariant holds after reset (with its clause on RXBUF of log entry 16). -/
def Obligations.ResetStateMeetsTheInvariant : Prop := State.reset.Inv

/-- Every step, from every state that meets the invariant, gives a state that meets it. (The invariant's clause that
RXBUF still holds in `Idle` the bytes RESULT was decoded from is the model's choice of log entry 16.) -/
def Obligations.EveryStepKeepsTheInvariant : Prop :=
  ∀ s t : State, s.Inv → step s = .next t → t.Inv

/-- From every state that meets the invariant, a step never faults, and on a configured transport it gives a next
state (that a waiting block and an idle one with no word have a step is log entry 5); what is refused is a transport
call on an unconfigured transport (R203; where the refusal falls is log entry 7). -/
def Obligations.StepsAreSafeOnAConfiguredTransport : Prop :=
  ∀ s : State, s.Inv →
    (∀ f, step s ≠ .fault f) ∧ (s.Configured → s.SafeStep) ∧
    (∀ r, step s = .refused r → r = .transportUnconfigured ∧ s.config = none ∧
      (s.phase = .sending ∨ s.phase = .waitingForResponse))

/-- R169: every arrow of PHASE with its condition, and no other. (That the block stays in `Idle` with no word, and in
`WaitingForResponse` below nine bytes, by a step is log entry 5; a word presented by hand, log entry 13, moves PHASE
nowhere; that the port is a queue is log entry 29.) -/
def Obligations.PhaseMovesOnlyAlongItsArrows : Prop :=
  ∀ s t : State, s.NoReset → step s = .next t →
    (s.phase = .idle →
      (t.phase = .idle ∧ (s.bench ≠ none ∨ s.port ++ (nextTurn s).offer = [])) ∨
      (s.bench = none ∧ ∃ w rest, s.port ++ (nextTurn s).offer = w :: rest ∧
        ((t.phase = .idle ∧ t.status = .ok ∧ ∃ b, decode (.cw w) = .instr (.opInitialize b)) ∨
          (t.phase = .idle ∧ t.status = .invalidParameter ∧ ∃ p a, validParam p = false ∧
            (decode (.cw w) = .instr (.opQuery p a) ∨ decode (.cw w) = .instr (.opEncode p a))) ∨
          (t.phase = .sending ∧ ∃ p a, validParam p = true ∧
            (decode (.cw w) = .instr (.opQuery p a) ∨ decode (.cw w) = .instr (.opEncode p a))) ∨
          (t.phase = .waitingForResponse ∧ decode (.cw w) = .instr .opDecode)))) ∧
    (s.phase = .sending →
      (t.phase = .sending ∧ s.txcnt.val < 8 ∧ (nextTurn s).write = .accepted) ∨
      (t.phase = .idle ∧ s.txcnt.val < 8 ∧ t.status = .transportError ∧ (nextTurn s).write ≠ .accepted) ∨
      (t.phase = .waitingForResponse ∧ s.txcnt.val = 8 ∧ s.curop = .query) ∨
      (t.phase = .idle ∧ s.txcnt.val = 8 ∧ s.curop = .encode ∧ t.status = .ok)) ∧
    (s.phase = .waitingForResponse →
      (t.phase = .waitingForResponse ∧ (s.rxfifo ++ (nextTurn s).arrive).length < 9) ∨
      (9 ≤ (s.rxfifo ++ (nextTurn s).arrive).length ∧
        ((t.phase = .decoding ∧ (nextTurn s).read = .delivered) ∨
          (t.phase = .idle ∧ t.status = .transportError ∧ (nextTurn s).read ≠ .delivered)))) ∧
    (s.phase = .decoding → t.phase = .idle)

/-- R36: T.TXLOG is empty at first and only grows, nothing in it is removed or reordered; a step adds at most one
byte. -/
def Obligations.TransmitLogOnlyGrows : Prop :=
  State.reset.txlog = [] ∧
  ∀ s t : State, step s = .next t → s.txlog <+: t.txlog ∧ t.txlog.length ≤ s.txlog.length + 1

/-- R52: in every run, every byte of the Command Table reads the same before and after. -/
def Obligations.CommandTableNeverChanges : Prop :=
  ∀ (n : Nat) (s t : State), run n s = .next t → ∀ a : Nat, t.table.byte a = s.table.byte a

/-- R29: apart from the reset event, RESULT is written only by the decode step, and only together with RESULT_VALID. -/
def Obligations.ResultIsWrittenOnlyByDecodeStep : Prop :=
  ∀ s t : State, s.NoReset → step s = .next t → t.result ≠ s.result →
    s.phase = .decoding ∧ t.resultValid = true ∧ t.result = lastFour s.rxbuf

/-- R2: the caller's operations are the closed set of the four command words; every command word is one of them, and in
no run does a word of another format reach the block unless one was placed there by hand (log entry 13). -/
def Obligations.CallerIssuesOnlyTheFourOperations : Prop :=
  (∀ w : CommandWord, (∃ b, decode (.cw w) = .instr (.opInitialize b)) ∨
    (∃ p a, decode (.cw w) = .instr (.opQuery p a)) ∨ (∃ p a, decode (.cw w) = .instr (.opEncode p a)) ∨
    decode (.cw w) = .instr .opDecode) ∧
  State.reset.bench = none ∧
  (∀ (n : Nat) (s t : State), s.bench = none → run n s = .next t → t.bench = none)
end

