-- ==== Sys2Proof/Laws/Bits.lean ====
section
/-! SUPPORT. Concatenations and bit fields as arithmetic on numbers (R8), from which every fact about an encoding
follows by linear arithmetic. -/

namespace Sys2Proof

/-- R8: if `y` has `m` bits, `x ‖ y = x * 2^m + y`. -/
theorem append_toNat {n m : Nat} (x : BitVec n) (y : BitVec m) : (x ++ y).toNat = x.toNat * 2 ^ m + y.toNat := by
  rw [BitVec.toNat_append, Nat.shiftLeft_eq, Nat.mul_comm, Nat.two_pow_add_eq_or_of_lt y.isLt]

/-- A bit field as a quotient and a remainder. -/
theorem extract_toNat {n lo len : Nat} (x : BitVec n) :
    (x.extractLsb' lo len).toNat = x.toNat / 2 ^ lo % 2 ^ len := by
  rw [BitVec.extractLsb'_toNat, Nat.shiftRight_eq_div_pow]

/-- A command word as a number of its fields (R81). -/
theorem commandWord_toNat (op : BitVec 2) (x : BitVec 16) (p a : Byte) :
    (commandWord op x p a).toNat = op.toNat * 2 ^ 32 + x.toNat * 2 ^ 16 + p.toNat * 2 ^ 8 + a.toNat := by
  unfold commandWord
  rw [append_toNat, append_toNat, append_toNat]
  omega

/-- A 64-bit pattern as a number of its bytes. -/
theorem concat8_toNat (v : Vector Byte 8) :
    (concat8 v).toNat = v[0].toNat * 2 ^ 56 + v[1].toNat * 2 ^ 48 + v[2].toNat * 2 ^ 40 + v[3].toNat * 2 ^ 32
      + v[4].toNat * 2 ^ 24 + v[5].toNat * 2 ^ 16 + v[6].toNat * 2 ^ 8 + v[7].toNat := by
  unfold concat8
  repeat rw [append_toNat]
  omega

/-- A 72-bit pattern as a number of its bytes. -/
theorem concat9_toNat (v : Vector Byte 9) :
    (concat9 v).toNat = v[0].toNat * 2 ^ 64 + v[1].toNat * 2 ^ 56 + v[2].toNat * 2 ^ 48 + v[3].toNat * 2 ^ 40
      + v[4].toNat * 2 ^ 32 + v[5].toNat * 2 ^ 24 + v[6].toNat * 2 ^ 16 + v[7].toNat * 2 ^ 8 + v[8].toNat := by
  unfold concat9
  repeat rw [append_toNat]
  omega

end Sys2Proof
end

