-- ==== Sys2Proof/Laws/Operands.lean ====
section
/-! SUPPORT. What the operand forms and the table reads answer: one spec lemma per function. -/

namespace Sys2Proof.Machine

/-! ## The validity test and the lookup -/

/-- R83 as arithmetic. -/
theorem validParam_iff (p : Byte) : validParam p = true ↔ p.toNat % 8 = 0 ∧ p.toNat ≤ 240 := by
  have h : (p.extractLsb' 0 3 = 0#3) ↔ p.toNat % 8 = 0 := by
    constructor
    · intro h
      have := congrArg BitVec.toNat h
      simpa using this
    · intro h
      apply BitVec.eq_of_toNat_eq
      simpa using h
  simp [validParam, h]

theorem validParam_le {p : Byte} (h : validParam p = true) : p.toNat ≤ 240 := ((validParam_iff p).1 h).2

/-- Template bytes 1 to 7 of the entry at `p`, as the table reads them. -/
def templateAt (m : Memory) (p : Byte) : Template :=
  Vector.ofFn fun k : Fin 7 => m.byte (p.toNat + 1 + k.val)

/-- The template, byte by byte. -/
theorem templateAt_eq (m : Memory) (p : Byte) :
    templateAt m p =
      #v[m.byte (p.toNat + 1), m.byte (p.toNat + 2), m.byte (p.toNat + 3), m.byte (p.toNat + 4),
        m.byte (p.toNat + 5), m.byte (p.toNat + 6), m.byte (p.toNat + 7)] := by
  ext i hi : 1
  interval_cases i <;> simp [templateAt, Nat.add_assoc]

/-- A lookup of a valid ParameterId answers its template: no table address outside the table is read (R54, R110). -/
theorem lookupTemplate_valid (m : Memory) {p : Byte} (h : validParam p = true) :
    lookupTemplate m p = .ok (templateAt m p) := by
  have hle := validParam_le h
  have h248 : p.toNat + 1 + 7 ≤ 248 := by omega
  simp [lookupTemplate, h, memRead, templateAt, Config.tplLen, Config.tableBytes, Config.nParams, Config.stride,
    h248]

/-- A lookup of any other value fails with InvalidParameter (R110, R176). -/
theorem lookupTemplate_invalid (m : Memory) {p : Byte} (h : validParam p = false) :
    lookupTemplate m p = .error .invalidParameter := by
  simp [lookupTemplate, h]

/-- The frame of a template, byte by byte, is the frame function of R123. -/
theorem frameOf_templateAt (m : Memory) (p a : Byte) :
    frameOf a (templateAt m p) =
      #v[a, m.byte (p.toNat + 1), m.byte (p.toNat + 2), m.byte (p.toNat + 3), m.byte (p.toNat + 4),
        m.byte (p.toNat + 5), m.byte (p.toNat + 6), m.byte (p.toNat + 7)] := by
  simp [frameOf, templateAt, Nat.add_assoc]

/-! ## The table's canonical form -/

@[simp] theorem Memory.wf_nil : Memory.wf [] = true := rfl

/-- An entry listed for an address is what the address reads as. -/
theorem Memory.byte_of_cell {m : Memory} {a : Nat} {b : Byte} (h : m.cell a = some b) : m.byte a = b := by
  simp [Memory.byte, h]

/-- An address that is not listed reads as the free value. -/
theorem Memory.byte_of_unlisted {m : Memory} {a : Nat} (h : m.cell a = none) : m.byte a = Config.cmdTable a := by
  simp [Memory.byte, h]

/-- In a table from `lo` on, no address below `lo` is listed. -/
theorem Memory.cell_below {lo : Nat} {m : Memory} (h : m.wfFrom lo = true) {a : Nat} (ha : a < lo) :
    m.cell a = none := by
  induction m generalizing lo with
  | nil => rfl
  | cons c rest ih =>
    simp only [Memory.wfFrom, Bool.and_eq_true, decide_eq_true_eq] at h
    have hne : c.1 ≠ a := by omega
    simp only [Memory.cell, hne, if_false]
    exact ih h.2 (by omega)

/-- Two tables in canonical form that read the same everywhere are the same data. -/
theorem Memory.wf_ext {lo : Nat} {m m' : Memory} (h : m.wfFrom lo = true) (h' : m'.wfFrom lo = true)
    (hb : ∀ a, m.byte a = m'.byte a) : m = m' := by
  induction m generalizing lo m' with
  | nil =>
    cases m' with
    | nil => rfl
    | cons c' rest' =>
      simp only [Memory.wfFrom, Bool.and_eq_true, decide_eq_true_eq] at h'
      exact absurd (by simpa [Memory.byte, Memory.cell] using (hb c'.1).symm) h'.1.2
  | cons c rest ih =>
    cases m' with
    | nil =>
      simp only [Memory.wfFrom, Bool.and_eq_true, decide_eq_true_eq] at h
      exact absurd (by simpa [Memory.byte, Memory.cell] using hb c.1) h.1.2
    | cons c' rest' =>
      simp only [Memory.wfFrom, Bool.and_eq_true, decide_eq_true_eq] at h h'
      rcases Nat.lt_trichotomy c.1 c'.1 with hlt | heq | hgt
      · have hn : Memory.cell rest' c.1 = none := Memory.cell_below h'.2 (by omega)
        have hne : c'.1 ≠ c.1 := by omega
        exact absurd (by simpa [Memory.byte, Memory.cell, hne, hn] using hb c.1) h.1.2
      · have hval : c.2 = c'.2 := by simpa [Memory.byte, Memory.cell, heq] using hb c.1
        have hc : c = c' := Prod.ext heq hval
        subst hc
        congr 1
        refine ih h.2 h'.2 fun a => ?_
        by_cases ha : c.1 = a
        · subst ha
          rw [Memory.byte_of_unlisted (Memory.cell_below h.2 (by omega)),
            Memory.byte_of_unlisted (Memory.cell_below h'.2 (by omega))]
        · simpa [Memory.byte, Memory.cell, ha] using hb a
      · have hn : Memory.cell rest c'.1 = none := Memory.cell_below h.2 (by omega)
        have hne : c.1 ≠ c'.1 := by omega
        exact absurd (by simpa [Memory.byte, Memory.cell, hne, hn] using (hb c'.1).symm) h'.1.2

end Sys2Proof.Machine
end

