-- ==== Sys2Proof/Laws/State.lean ====
section
/-! SUPPORT. One lemma per field per update of the state, each true by rfl, so that no proof unfolds a record
update. -/

namespace Sys2Proof.Machine

/-! ## raiseError -/

@[simp] theorem raiseError_phase (e : ErrorCode) (s : State) : (raiseError e s).phase = .idle := rfl
@[simp] theorem raiseError_curop (e : ErrorCode) (s : State) : (raiseError e s).curop = s.curop := rfl
@[simp] theorem raiseError_param (e : ErrorCode) (s : State) : (raiseError e s).param = s.param := rfl
@[simp] theorem raiseError_saddr (e : ErrorCode) (s : State) : (raiseError e s).saddr = s.saddr := rfl
@[simp] theorem raiseError_txcnt (e : ErrorCode) (s : State) : (raiseError e s).txcnt = s.txcnt := rfl
@[simp] theorem raiseError_txbuf (e : ErrorCode) (s : State) : (raiseError e s).txbuf = s.txbuf := rfl
@[simp] theorem raiseError_rxbuf (e : ErrorCode) (s : State) : (raiseError e s).rxbuf = s.rxbuf := rfl
@[simp] theorem raiseError_result (e : ErrorCode) (s : State) : (raiseError e s).result = s.result := rfl
@[simp] theorem raiseError_resultValid (e : ErrorCode) (s : State) : (raiseError e s).resultValid = false := rfl
@[simp] theorem raiseError_status (e : ErrorCode) (s : State) : (raiseError e s).status = e.status := rfl
@[simp] theorem raiseError_table (e : ErrorCode) (s : State) : (raiseError e s).table = s.table := rfl
@[simp] theorem raiseError_txlog (e : ErrorCode) (s : State) : (raiseError e s).txlog = s.txlog := rfl
@[simp] theorem raiseError_rxfifo (e : ErrorCode) (s : State) : (raiseError e s).rxfifo = s.rxfifo := rfl
@[simp] theorem raiseError_config (e : ErrorCode) (s : State) : (raiseError e s).config = s.config := rfl
@[simp] theorem raiseError_port (e : ErrorCode) (s : State) : (raiseError e s).port = s.port := rfl
@[simp] theorem raiseError_bench (e : ErrorCode) (s : State) : (raiseError e s).bench = s.bench := rfl
@[simp] theorem raiseError_env (e : ErrorCode) (s : State) : (raiseError e s).env = s.env := rfl
@[simp] theorem raiseError_lookupOut (e : ErrorCode) (s : State) : (raiseError e s).lookupOut = s.lookupOut := rfl
@[simp] theorem raiseError_wireOut (e : ErrorCode) (s : State) : (raiseError e s).wireOut = s.wireOut := rfl
@[simp] theorem raiseError_freeCount (e : ErrorCode) (s : State) : (raiseError e s).freeCount = s.freeCount := rfl

/-! ## tConfigure -/

@[simp] theorem tConfigure_phase (b : BitVec 32) (d : Nat) (p : Parity) (t : Nat) (s : State) : (tConfigure b d p t s).phase = s.phase := rfl
@[simp] theorem tConfigure_curop (b : BitVec 32) (d : Nat) (p : Parity) (t : Nat) (s : State) : (tConfigure b d p t s).curop = s.curop := rfl
@[simp] theorem tConfigure_param (b : BitVec 32) (d : Nat) (p : Parity) (t : Nat) (s : State) : (tConfigure b d p t s).param = s.param := rfl
@[simp] theorem tConfigure_saddr (b : BitVec 32) (d : Nat) (p : Parity) (t : Nat) (s : State) : (tConfigure b d p t s).saddr = s.saddr := rfl
@[simp] theorem tConfigure_txcnt (b : BitVec 32) (d : Nat) (p : Parity) (t : Nat) (s : State) : (tConfigure b d p t s).txcnt = s.txcnt := rfl
@[simp] theorem tConfigure_txbuf (b : BitVec 32) (d : Nat) (p : Parity) (t : Nat) (s : State) : (tConfigure b d p t s).txbuf = s.txbuf := rfl
@[simp] theorem tConfigure_rxbuf (b : BitVec 32) (d : Nat) (p : Parity) (t : Nat) (s : State) : (tConfigure b d p t s).rxbuf = s.rxbuf := rfl
@[simp] theorem tConfigure_result (b : BitVec 32) (d : Nat) (p : Parity) (t : Nat) (s : State) : (tConfigure b d p t s).result = s.result := rfl
@[simp] theorem tConfigure_resultValid (b : BitVec 32) (d : Nat) (p : Parity) (t : Nat) (s : State) : (tConfigure b d p t s).resultValid = s.resultValid := rfl
@[simp] theorem tConfigure_status (b : BitVec 32) (d : Nat) (p : Parity) (t : Nat) (s : State) : (tConfigure b d p t s).status = s.status := rfl
@[simp] theorem tConfigure_table (b : BitVec 32) (d : Nat) (p : Parity) (t : Nat) (s : State) : (tConfigure b d p t s).table = s.table := rfl
@[simp] theorem tConfigure_txlog (b : BitVec 32) (d : Nat) (p : Parity) (t : Nat) (s : State) : (tConfigure b d p t s).txlog = s.txlog := rfl
@[simp] theorem tConfigure_rxfifo (b : BitVec 32) (d : Nat) (p : Parity) (t : Nat) (s : State) : (tConfigure b d p t s).rxfifo = s.rxfifo := rfl
@[simp] theorem tConfigure_config (b : BitVec 32) (d : Nat) (p : Parity) (t : Nat) (s : State) : (tConfigure b d p t s).config = some ⟨b, d, p, t⟩ := rfl
@[simp] theorem tConfigure_port (b : BitVec 32) (d : Nat) (p : Parity) (t : Nat) (s : State) : (tConfigure b d p t s).port = s.port := rfl
@[simp] theorem tConfigure_bench (b : BitVec 32) (d : Nat) (p : Parity) (t : Nat) (s : State) : (tConfigure b d p t s).bench = s.bench := rfl
@[simp] theorem tConfigure_env (b : BitVec 32) (d : Nat) (p : Parity) (t : Nat) (s : State) : (tConfigure b d p t s).env = s.env := rfl
@[simp] theorem tConfigure_lookupOut (b : BitVec 32) (d : Nat) (p : Parity) (t : Nat) (s : State) : (tConfigure b d p t s).lookupOut = s.lookupOut := rfl
@[simp] theorem tConfigure_wireOut (b : BitVec 32) (d : Nat) (p : Parity) (t : Nat) (s : State) : (tConfigure b d p t s).wireOut = s.wireOut := rfl
@[simp] theorem tConfigure_freeCount (b : BitVec 32) (d : Nat) (p : Parity) (t : Nat) (s : State) : (tConfigure b d p t s).freeCount = s.freeCount := rfl

/-! ## tFlush -/

@[simp] theorem tFlush_phase (s : State) : (tFlush s).phase = s.phase := rfl
@[simp] theorem tFlush_curop (s : State) : (tFlush s).curop = s.curop := rfl
@[simp] theorem tFlush_param (s : State) : (tFlush s).param = s.param := rfl
@[simp] theorem tFlush_saddr (s : State) : (tFlush s).saddr = s.saddr := rfl
@[simp] theorem tFlush_txcnt (s : State) : (tFlush s).txcnt = s.txcnt := rfl
@[simp] theorem tFlush_txbuf (s : State) : (tFlush s).txbuf = s.txbuf := rfl
@[simp] theorem tFlush_rxbuf (s : State) : (tFlush s).rxbuf = s.rxbuf := rfl
@[simp] theorem tFlush_result (s : State) : (tFlush s).result = s.result := rfl
@[simp] theorem tFlush_resultValid (s : State) : (tFlush s).resultValid = s.resultValid := rfl
@[simp] theorem tFlush_status (s : State) : (tFlush s).status = s.status := rfl
@[simp] theorem tFlush_table (s : State) : (tFlush s).table = s.table := rfl
@[simp] theorem tFlush_txlog (s : State) : (tFlush s).txlog = s.txlog := rfl
@[simp] theorem tFlush_rxfifo (s : State) : (tFlush s).rxfifo = [] := rfl
@[simp] theorem tFlush_config (s : State) : (tFlush s).config = s.config := rfl
@[simp] theorem tFlush_port (s : State) : (tFlush s).port = s.port := rfl
@[simp] theorem tFlush_bench (s : State) : (tFlush s).bench = s.bench := rfl
@[simp] theorem tFlush_env (s : State) : (tFlush s).env = s.env := rfl
@[simp] theorem tFlush_lookupOut (s : State) : (tFlush s).lookupOut = s.lookupOut := rfl
@[simp] theorem tFlush_wireOut (s : State) : (tFlush s).wireOut = s.wireOut := rfl
@[simp] theorem tFlush_freeCount (s : State) : (tFlush s).freeCount = s.freeCount := rfl

/-! ## absorb -/

@[simp] theorem absorb_phase (t : EnvTurn) (s : State) : (absorb t s).phase = s.phase := rfl
@[simp] theorem absorb_curop (t : EnvTurn) (s : State) : (absorb t s).curop = s.curop := rfl
@[simp] theorem absorb_param (t : EnvTurn) (s : State) : (absorb t s).param = s.param := rfl
@[simp] theorem absorb_saddr (t : EnvTurn) (s : State) : (absorb t s).saddr = s.saddr := rfl
@[simp] theorem absorb_txcnt (t : EnvTurn) (s : State) : (absorb t s).txcnt = s.txcnt := rfl
@[simp] theorem absorb_txbuf (t : EnvTurn) (s : State) : (absorb t s).txbuf = s.txbuf := rfl
@[simp] theorem absorb_rxbuf (t : EnvTurn) (s : State) : (absorb t s).rxbuf = s.rxbuf := rfl
@[simp] theorem absorb_result (t : EnvTurn) (s : State) : (absorb t s).result = s.result := rfl
@[simp] theorem absorb_resultValid (t : EnvTurn) (s : State) : (absorb t s).resultValid = s.resultValid := rfl
@[simp] theorem absorb_status (t : EnvTurn) (s : State) : (absorb t s).status = s.status := rfl
@[simp] theorem absorb_table (t : EnvTurn) (s : State) : (absorb t s).table = s.table := rfl
@[simp] theorem absorb_txlog (t : EnvTurn) (s : State) : (absorb t s).txlog = s.txlog := rfl
@[simp] theorem absorb_rxfifo (t : EnvTurn) (s : State) : (absorb t s).rxfifo = s.rxfifo ++ t.arrive := rfl
@[simp] theorem absorb_config (t : EnvTurn) (s : State) : (absorb t s).config = s.config := rfl
@[simp] theorem absorb_port (t : EnvTurn) (s : State) : (absorb t s).port = s.port ++ t.offer := rfl
@[simp] theorem absorb_bench (t : EnvTurn) (s : State) : (absorb t s).bench = s.bench := rfl
@[simp] theorem absorb_env (t : EnvTurn) (s : State) : (absorb t s).env = s.env.tail := rfl
@[simp] theorem absorb_lookupOut (t : EnvTurn) (s : State) : (absorb t s).lookupOut = s.lookupOut := rfl
@[simp] theorem absorb_wireOut (t : EnvTurn) (s : State) : (absorb t s).wireOut = s.wireOut := rfl
@[simp] theorem absorb_freeCount (t : EnvTurn) (s : State) : (absorb t s).freeCount = s.freeCount := rfl

/-! ## assemble -/

@[simp] theorem assemble_phase (m : Frame) (s : State) : (assemble m s).phase = .sending := rfl
@[simp] theorem assemble_curop (m : Frame) (s : State) : (assemble m s).curop = s.curop := rfl
@[simp] theorem assemble_param (m : Frame) (s : State) : (assemble m s).param = s.param := rfl
@[simp] theorem assemble_saddr (m : Frame) (s : State) : (assemble m s).saddr = s.saddr := rfl
@[simp] theorem assemble_txcnt (m : Frame) (s : State) : (assemble m s).txcnt = 0 := rfl
@[simp] theorem assemble_txbuf (m : Frame) (s : State) : (assemble m s).txbuf = m := rfl
@[simp] theorem assemble_rxbuf (m : Frame) (s : State) : (assemble m s).rxbuf = s.rxbuf := rfl
@[simp] theorem assemble_result (m : Frame) (s : State) : (assemble m s).result = s.result := rfl
@[simp] theorem assemble_resultValid (m : Frame) (s : State) : (assemble m s).resultValid = s.resultValid := rfl
@[simp] theorem assemble_status (m : Frame) (s : State) : (assemble m s).status = s.status := rfl
@[simp] theorem assemble_table (m : Frame) (s : State) : (assemble m s).table = s.table := rfl
@[simp] theorem assemble_txlog (m : Frame) (s : State) : (assemble m s).txlog = s.txlog := rfl
@[simp] theorem assemble_rxfifo (m : Frame) (s : State) : (assemble m s).rxfifo = s.rxfifo := rfl
@[simp] theorem assemble_config (m : Frame) (s : State) : (assemble m s).config = s.config := rfl
@[simp] theorem assemble_port (m : Frame) (s : State) : (assemble m s).port = s.port := rfl
@[simp] theorem assemble_bench (m : Frame) (s : State) : (assemble m s).bench = s.bench := rfl
@[simp] theorem assemble_env (m : Frame) (s : State) : (assemble m s).env = s.env := rfl
@[simp] theorem assemble_lookupOut (m : Frame) (s : State) : (assemble m s).lookupOut = s.lookupOut := rfl
@[simp] theorem assemble_wireOut (m : Frame) (s : State) : (assemble m s).wireOut = s.wireOut := rfl
@[simp] theorem assemble_freeCount (m : Frame) (s : State) : (assemble m s).freeCount = s.freeCount := rfl

/-! ## latchOperands -/

@[simp] theorem latchOperands_phase (op : OpCode) (p a : Byte) (s : State) : (latchOperands op p a s).phase = s.phase := rfl
@[simp] theorem latchOperands_curop (op : OpCode) (p a : Byte) (s : State) : (latchOperands op p a s).curop = op := rfl
@[simp] theorem latchOperands_param (op : OpCode) (p a : Byte) (s : State) : (latchOperands op p a s).param = p := rfl
@[simp] theorem latchOperands_saddr (op : OpCode) (p a : Byte) (s : State) : (latchOperands op p a s).saddr = a := rfl
@[simp] theorem latchOperands_txcnt (op : OpCode) (p a : Byte) (s : State) : (latchOperands op p a s).txcnt = s.txcnt := rfl
@[simp] theorem latchOperands_txbuf (op : OpCode) (p a : Byte) (s : State) : (latchOperands op p a s).txbuf = s.txbuf := rfl
@[simp] theorem latchOperands_rxbuf (op : OpCode) (p a : Byte) (s : State) : (latchOperands op p a s).rxbuf = s.rxbuf := rfl
@[simp] theorem latchOperands_result (op : OpCode) (p a : Byte) (s : State) : (latchOperands op p a s).result = s.result := rfl
@[simp] theorem latchOperands_resultValid (op : OpCode) (p a : Byte) (s : State) : (latchOperands op p a s).resultValid = false := rfl
@[simp] theorem latchOperands_status (op : OpCode) (p a : Byte) (s : State) : (latchOperands op p a s).status = s.status := rfl
@[simp] theorem latchOperands_table (op : OpCode) (p a : Byte) (s : State) : (latchOperands op p a s).table = s.table := rfl
@[simp] theorem latchOperands_txlog (op : OpCode) (p a : Byte) (s : State) : (latchOperands op p a s).txlog = s.txlog := rfl
@[simp] theorem latchOperands_rxfifo (op : OpCode) (p a : Byte) (s : State) : (latchOperands op p a s).rxfifo = s.rxfifo := rfl
@[simp] theorem latchOperands_config (op : OpCode) (p a : Byte) (s : State) : (latchOperands op p a s).config = s.config := rfl
@[simp] theorem latchOperands_port (op : OpCode) (p a : Byte) (s : State) : (latchOperands op p a s).port = s.port := rfl
@[simp] theorem latchOperands_bench (op : OpCode) (p a : Byte) (s : State) : (latchOperands op p a s).bench = s.bench := rfl
@[simp] theorem latchOperands_env (op : OpCode) (p a : Byte) (s : State) : (latchOperands op p a s).env = s.env := rfl
@[simp] theorem latchOperands_lookupOut (op : OpCode) (p a : Byte) (s : State) : (latchOperands op p a s).lookupOut = s.lookupOut := rfl
@[simp] theorem latchOperands_wireOut (op : OpCode) (p a : Byte) (s : State) : (latchOperands op p a s).wireOut = s.wireOut := rfl
@[simp] theorem latchOperands_freeCount (op : OpCode) (p a : Byte) (s : State) : (latchOperands op p a s).freeCount = s.freeCount := rfl

/-! ## decodeStep -/

@[simp] theorem decodeStep_phase (s : State) : (decodeStep s).phase = .idle := rfl
@[simp] theorem decodeStep_curop (s : State) : (decodeStep s).curop = s.curop := rfl
@[simp] theorem decodeStep_param (s : State) : (decodeStep s).param = s.param := rfl
@[simp] theorem decodeStep_saddr (s : State) : (decodeStep s).saddr = s.saddr := rfl
@[simp] theorem decodeStep_txcnt (s : State) : (decodeStep s).txcnt = s.txcnt := rfl
@[simp] theorem decodeStep_txbuf (s : State) : (decodeStep s).txbuf = s.txbuf := rfl
@[simp] theorem decodeStep_rxbuf (s : State) : (decodeStep s).rxbuf = s.rxbuf := rfl
@[simp] theorem decodeStep_result (s : State) : (decodeStep s).result = decodeValue Config.floatWidth s.rxbuf := rfl
@[simp] theorem decodeStep_resultValid (s : State) : (decodeStep s).resultValid = true := rfl
@[simp] theorem decodeStep_status (s : State) : (decodeStep s).status = .ok := rfl
@[simp] theorem decodeStep_table (s : State) : (decodeStep s).table = s.table := rfl
@[simp] theorem decodeStep_txlog (s : State) : (decodeStep s).txlog = s.txlog := rfl
@[simp] theorem decodeStep_rxfifo (s : State) : (decodeStep s).rxfifo = s.rxfifo := rfl
@[simp] theorem decodeStep_config (s : State) : (decodeStep s).config = s.config := rfl
@[simp] theorem decodeStep_port (s : State) : (decodeStep s).port = s.port := rfl
@[simp] theorem decodeStep_bench (s : State) : (decodeStep s).bench = s.bench := rfl
@[simp] theorem decodeStep_env (s : State) : (decodeStep s).env = s.env := rfl
@[simp] theorem decodeStep_lookupOut (s : State) : (decodeStep s).lookupOut = s.lookupOut := rfl
@[simp] theorem decodeStep_wireOut (s : State) : (decodeStep s).wireOut = s.wireOut := rfl
@[simp] theorem decodeStep_freeCount (s : State) : (decodeStep s).freeCount = s.freeCount := rfl

/-! ## resetEvent -/

@[simp] theorem resetEvent_phase (s : State) : (resetEvent s).phase = .idle := rfl
@[simp] theorem resetEvent_curop (s : State) : (resetEvent s).curop = State.reset.curop := rfl
@[simp] theorem resetEvent_param (s : State) : (resetEvent s).param = State.reset.param := rfl
@[simp] theorem resetEvent_saddr (s : State) : (resetEvent s).saddr = State.reset.saddr := rfl
@[simp] theorem resetEvent_txcnt (s : State) : (resetEvent s).txcnt = State.reset.txcnt := rfl
@[simp] theorem resetEvent_txbuf (s : State) : (resetEvent s).txbuf = State.reset.txbuf := rfl
@[simp] theorem resetEvent_rxbuf (s : State) : (resetEvent s).rxbuf = State.reset.rxbuf := rfl
@[simp] theorem resetEvent_result (s : State) : (resetEvent s).result = State.reset.result := rfl
@[simp] theorem resetEvent_resultValid (s : State) : (resetEvent s).resultValid = false := rfl
@[simp] theorem resetEvent_status (s : State) : (resetEvent s).status = .ok := rfl
@[simp] theorem resetEvent_table (s : State) : (resetEvent s).table = s.table := rfl
@[simp] theorem resetEvent_txlog (s : State) : (resetEvent s).txlog = s.txlog := rfl
@[simp] theorem resetEvent_rxfifo (s : State) : (resetEvent s).rxfifo = s.rxfifo := rfl
@[simp] theorem resetEvent_config (s : State) : (resetEvent s).config = none := rfl
@[simp] theorem resetEvent_port (s : State) : (resetEvent s).port = s.port := rfl
@[simp] theorem resetEvent_bench (s : State) : (resetEvent s).bench = s.bench := rfl
@[simp] theorem resetEvent_env (s : State) : (resetEvent s).env = s.env := rfl
@[simp] theorem resetEvent_lookupOut (s : State) : (resetEvent s).lookupOut = none := rfl
@[simp] theorem resetEvent_wireOut (s : State) : (resetEvent s).wireOut = none := rfl
@[simp] theorem resetEvent_freeCount (s : State) : (resetEvent s).freeCount = s.freeCount := rfl

end Sys2Proof.Machine
end

