-- ==== Sys2Proof/Laws/Ops.lean ====
section
/-! SUPPORT. What the shared operations and the block's own steps can do, said once: provers cite these instead of
unfolding the operations. -/

namespace Sys2Proof.Machine

/-! ## Accept and look up -/

theorem acceptAddressed_valid (op : OpCode) {p : Byte} (a : Byte) (s : State) (h : validParam p = true) :
    acceptAddressed op p a s =
      .next (assemble (frameOf a (templateAt s.table p)) (latchOperands op p a s)) := by
  simp [acceptAddressed, lookupTemplate_valid _ h]

theorem acceptAddressed_invalid (op : OpCode) {p : Byte} (a : Byte) (s : State) (h : validParam p = false) :
    acceptAddressed op p a s = .next (raiseError .invalidParameter (latchOperands op p a s)) := by
  simp [acceptAddressed, lookupTemplate_invalid _ h]

theorem answerLookup_valid {p : Byte} (s : State) (h : validParam p = true) :
    answerLookup p s = .next { s with lookupOut := some (templateAt s.table p) } := by
  simp [answerLookup, lookupTemplate_valid _ h]

theorem answerLookup_invalid {p : Byte} (s : State) (h : validParam p = false) :
    answerLookup p s = .next (raiseError .invalidParameter s) := by
  simp [answerLookup, lookupTemplate_invalid _ h]

/-! ## The transport -/

theorem takeBytes_append {n : Nat} (v : Vector Byte n) (rest : List Byte) :
    takeBytes n (v.toList ++ rest) = some (v, rest) := by
  have h : n ≤ (v.toList ++ rest).length := by simp
  have hv : ∀ (l : List Byte) (hl : l.toArray.size = n), l = v.toList → (⟨l.toArray, hl⟩ : Vector Byte n) = v := by
    rintro l hl rfl
    rfl
  simp only [takeBytes, h, dite_true, Option.some.injEq, Prod.mk.injEq]
  exact ⟨hv _ _ (by simp), by simp⟩

theorem takeBytes_short {n : Nat} {l : List Byte} (h : l.length < n) : takeBytes n l = none := by
  simp [takeBytes, Nat.not_le.2 h]

/-- If bytes can be taken, they are the oldest and the rest follows. -/
theorem takeBytes_some {n : Nat} {l : List Byte} {v : Vector Byte n} {rest : List Byte}
    (h : takeBytes n l = some (v, rest)) : l = v.toList ++ rest := by
  unfold takeBytes at h
  split at h
  · cases h
    exact (List.take_append_drop n l).symm
  · cases h

/-- The block's send step while bytes are left: one of the transport's three answers (R124, R127, R203). -/
theorem sendStep_cases {o : WriteOutcome} {s : State} (h : s.txcnt.val < 8) :
    (s.config = none ∧ sendStep o s = .refused .transportUnconfigured) ∨
    (s.config ≠ none ∧ o = .accepted ∧ sendStep o s = .next
      { s with txlog := s.txlog ++ [s.txbuf[s.txcnt.val]], txcnt := ⟨s.txcnt.val + 1, by omega⟩ }) ∨
    (s.config ≠ none ∧ o = .failed true ∧ sendStep o s = .next
      (raiseError .transportError { s with txlog := s.txlog ++ [s.txbuf[s.txcnt.val]] })) ∨
    (s.config ≠ none ∧ o = .failed false ∧ sendStep o s = .next (raiseError .transportError s)) := by
  rcases hc : s.config with _ | c
  · exact .inl ⟨rfl, by simp [sendStep, h, tWrite, hc]⟩
  · rcases o with _ | _ | _
    · exact .inr (.inl ⟨by simp, rfl, by simp [sendStep, h, tWrite, hc]⟩)
    · exact .inr (.inr (.inr ⟨by simp, rfl, by simp [sendStep, h, tWrite, hc]⟩))
    · exact .inr (.inr (.inl ⟨by simp, rfl, by simp [sendStep, h, tWrite, hc]⟩))

/-- The block's send step when all eight bytes are out is the end of sending (R164). -/
theorem sendStep_done {o : WriteOutcome} {s : State} (h : ¬ s.txcnt.val < 8) : sendStep o s = endOfSending s := by
  simp [sendStep, h]

/-- The wait step while fewer than 9 bytes are buffered: nothing (R144). -/
theorem waitStep_short {o : ReadOutcome} {s : State} (hc : s.config ≠ none) (h : s.rxfifo.length < 9) :
    waitStep o s = .next s := by
  obtain ⟨c, hc⟩ := Option.ne_none_iff_exists'.1 hc
  have : ¬ 9 ≤ s.rxfifo.length := by omega
  simp [waitStep, tAvailable, hc, this]

/-- The wait step on an unconfigured transport (R203). -/
theorem waitStep_unconfigured {o : ReadOutcome} {s : State} (hc : s.config = none) :
    waitStep o s = .refused .transportUnconfigured := by
  simp [waitStep, tAvailable, hc]

/-- The wait step with a whole response buffered and a read that succeeds (R145, R146). -/
theorem waitStep_read {s : State} {r : Payload} {rest : List Byte} (hc : s.config ≠ none)
    (hr : s.rxfifo = r.toList ++ rest) :
    waitStep .delivered s = .next { s with rxbuf := r, rxfifo := [], phase := .decoding } := by
  obtain ⟨c, hc⟩ := Option.ne_none_iff_exists'.1 hc
  have ht : takeBytes 9 s.rxfifo = some (r, rest) := hr ▸ takeBytes_append r rest
  have hlen : 9 ≤ s.rxfifo.length := by simp [hr]
  simp [waitStep, tAvailable, hc, hlen, tRead9, Config.rxLen, ht, tFlush]

/-- The wait step with a whole response buffered and a read that fails (R149). -/
theorem waitStep_readFails {s : State} {k : Fin 10} (hc : s.config ≠ none) (hlen : 9 ≤ s.rxfifo.length) :
    waitStep (.failed k) s = .next (raiseError .transportError
      { s with
        rxfifo := s.rxfifo.drop k.val
        rxbuf := Config.rxbufAfterFailedRead s.freeCount s.rxbuf
        freeCount := s.freeCount + 1 }) := by
  obtain ⟨c, hc⟩ := Option.ne_none_iff_exists'.1 hc
  simp [waitStep, tAvailable, hc, hlen, tRead9, Config.rxLen, takeBytes]

/-- The wait step's every case. -/
theorem waitStep_cases (o : ReadOutcome) (s : State) :
    (s.config = none ∧ waitStep o s = .refused .transportUnconfigured) ∨
    (s.config ≠ none ∧ s.rxfifo.length < 9 ∧ waitStep o s = .next s) ∨
    (s.config ≠ none ∧ o = .delivered ∧ ∃ (r : Payload) (rest : List Byte), s.rxfifo = r.toList ++ rest ∧
      waitStep o s = .next { s with rxbuf := r, rxfifo := [], phase := .decoding }) ∨
    (s.config ≠ none ∧ 9 ≤ s.rxfifo.length ∧ ∃ (k : Fin 10) (v : Payload), o = .failed k ∧
      waitStep o s = .next (raiseError .transportError
        { s with rxfifo := s.rxfifo.drop k.val, rxbuf := v, freeCount := s.freeCount + 1 })) := by
  by_cases hc : s.config = none
  · exact .inl ⟨hc, waitStep_unconfigured hc⟩
  · by_cases hlen : s.rxfifo.length < 9
    · exact .inr (.inl ⟨hc, hlen, waitStep_short hc hlen⟩)
    · have hge : 9 ≤ s.rxfifo.length := by omega
      cases o with
      | delivered =>
        have ht : takeBytes 9 s.rxfifo
            = some (⟨(s.rxfifo.take 9).toArray, by simp; omega⟩, s.rxfifo.drop 9) := by
          simp [takeBytes, hge]
        have hr := takeBytes_some ht
        exact .inr (.inr (.inl ⟨hc, rfl, _, _, hr, waitStep_read hc hr⟩))
      | failed k => exact .inr (.inr (.inr ⟨hc, hge, k, _, rfl, waitStep_readFails hc hge⟩))

/-! ## The port -/

theorem fetch_none {s : State} (hb : s.bench = none) (h : s.port = []) : fetch s = none := by simp [fetch, hb, h]

theorem fetch_command {s : State} {w : CommandWord} {rest : List CommandWord} (hb : s.bench = none)
    (h : s.port = w :: rest) : fetch s = some (.cw w, { s with port := rest }) := by simp [fetch, hb, h]

theorem fetch_bench {s : State} {f : FormatWord} (hb : s.bench = some f) :
    fetch s = some (.fmt f, { s with bench := none }) := by simp [fetch, hb]

end Sys2Proof.Machine
end

