-- ==== Sys2Proof/Laws/Exec.lean ====
section
/-! SUPPORT. What an instruction can do and what a step can do, each said once. -/

namespace Sys2Proof.Machine

/-- Every instruction's own step: what `exec` can answer. A fault or a refusal is not among it. -/
theorem exec_cases (i : Instr) (s : State) :
    (∃ b, i = .opInitialize b ∧ exec i s = .next { tConfigure b 8 .even 1 s with status := .ok }) ∨
    (∃ p a op, (i = .opQuery p a ∧ op = .query ∨ i = .opEncode p a ∧ op = .encode) ∧ validParam p = true ∧
      exec i s = .next (assemble (frameOf a (templateAt s.table p)) (latchOperands op p a s))) ∨
    (∃ p a op, (i = .opQuery p a ∧ op = .query ∨ i = .opEncode p a ∧ op = .encode) ∧ validParam p = false ∧
      exec i s = .next (raiseError .invalidParameter (latchOperands op p a s))) ∨
    (i = .opDecode ∧
      exec i s = .next { s with curop := .decode, resultValid := false, phase := .waitingForResponse }) ∨
    (∃ m, i = .outMsg m ∧ exec i s = .next { s with wireOut := some m }) ∨
    (∃ r : Payload, i = .resp r ∧ exec i s = .next { s with rxfifo := s.rxfifo ++ r.toList }) ∨
    (∃ t, exec i s = .next { s with lookupOut := some t }) ∨
    (∃ p, i = .lookup p ∧ validParam p = false ∧ exec i s = .next (raiseError .invalidParameter s)) := by
  have answered {j : Instr} {t : Template} (h : exec j s = .next { s with lookupOut := some t }) :
      ∃ t, exec j s = .next { s with lookupOut := some t } := ⟨t, h⟩
  have pid {p : Byte} (h : validParam p = true) := answerLookup_valid s h
  cases i with
  | opInitialize b => exact .inl ⟨b, rfl, rfl⟩
  | opQuery p a =>
    cases h : validParam p with
    | true => exact .inr (.inl ⟨p, a, .query, .inl ⟨rfl, rfl⟩, h, acceptAddressed_valid _ _ _ h⟩)
    | false => exact .inr (.inr (.inl ⟨p, a, .query, .inl ⟨rfl, rfl⟩, h, acceptAddressed_invalid _ _ _ h⟩))
  | opEncode p a =>
    cases h : validParam p with
    | true => exact .inr (.inl ⟨p, a, .encode, .inr ⟨rfl, rfl⟩, h, acceptAddressed_valid _ _ _ h⟩)
    | false => exact .inr (.inr (.inl ⟨p, a, .encode, .inr ⟨rfl, rfl⟩, h, acceptAddressed_invalid _ _ _ h⟩))
  | opDecode => exact .inr (.inr (.inr (.inl ⟨rfl, rfl⟩)))
  | outMsg m => exact .inr (.inr (.inr (.inr (.inl ⟨m, rfl, rfl⟩))))
  | resp r => exact .inr (.inr (.inr (.inr (.inr (.inl ⟨r, rfl, rfl⟩)))))
  | entry e => exact .inr (.inr (.inr (.inr (.inr (.inr (.inl ⟨_, rfl⟩))))))
  | lookup p =>
    cases h : validParam p with
    | true => exact .inr (.inr (.inr (.inr (.inr (.inr (.inl ⟨_, answerLookup_valid s h⟩))))))
    | false => exact .inr (.inr (.inr (.inr (.inr (.inr (.inr ⟨p, rfl, h, answerLookup_invalid s h⟩))))))
  | p000 => exact .inr (.inr (.inr (.inr (.inr (.inr (.inl (answered (pid (p := 0x00#8) (by decide)))))))))
  | p008 => exact .inr (.inr (.inr (.inr (.inr (.inr (.inl (answered (pid (p := 0x08#8) (by decide)))))))))
  | p016 => exact .inr (.inr (.inr (.inr (.inr (.inr (.inl (answered (pid (p := 0x10#8) (by decide)))))))))
  | p024 => exact .inr (.inr (.inr (.inr (.inr (.inr (.inl (answered (pid (p := 0x18#8) (by decide)))))))))
  | p032 => exact .inr (.inr (.inr (.inr (.inr (.inr (.inl (answered (pid (p := 0x20#8) (by decide)))))))))
  | p040 => exact .inr (.inr (.inr (.inr (.inr (.inr (.inl (answered (pid (p := 0x28#8) (by decide)))))))))
  | p048 => exact .inr (.inr (.inr (.inr (.inr (.inr (.inl (answered (pid (p := 0x30#8) (by decide)))))))))
  | p056 => exact .inr (.inr (.inr (.inr (.inr (.inr (.inl (answered (pid (p := 0x38#8) (by decide)))))))))
  | p064 => exact .inr (.inr (.inr (.inr (.inr (.inr (.inl (answered (pid (p := 0x40#8) (by decide)))))))))
  | p072 => exact .inr (.inr (.inr (.inr (.inr (.inr (.inl (answered (pid (p := 0x48#8) (by decide)))))))))
  | p080 => exact .inr (.inr (.inr (.inr (.inr (.inr (.inl (answered (pid (p := 0x50#8) (by decide)))))))))
  | p088 => exact .inr (.inr (.inr (.inr (.inr (.inr (.inl (answered (pid (p := 0x58#8) (by decide)))))))))
  | p096 => exact .inr (.inr (.inr (.inr (.inr (.inr (.inl (answered (pid (p := 0x60#8) (by decide)))))))))
  | p104 => exact .inr (.inr (.inr (.inr (.inr (.inr (.inl (answered (pid (p := 0x68#8) (by decide)))))))))
  | p112 => exact .inr (.inr (.inr (.inr (.inr (.inr (.inl (answered (pid (p := 0x70#8) (by decide)))))))))
  | p120 => exact .inr (.inr (.inr (.inr (.inr (.inr (.inl (answered (pid (p := 0x78#8) (by decide)))))))))
  | p128 => exact .inr (.inr (.inr (.inr (.inr (.inr (.inl (answered (pid (p := 0x80#8) (by decide)))))))))
  | p136 => exact .inr (.inr (.inr (.inr (.inr (.inr (.inl (answered (pid (p := 0x88#8) (by decide)))))))))
  | p144 => exact .inr (.inr (.inr (.inr (.inr (.inr (.inl (answered (pid (p := 0x90#8) (by decide)))))))))
  | p152 => exact .inr (.inr (.inr (.inr (.inr (.inr (.inl (answered (pid (p := 0x98#8) (by decide)))))))))
  | p160 => exact .inr (.inr (.inr (.inr (.inr (.inr (.inl (answered (pid (p := 0xA0#8) (by decide)))))))))
  | p168 => exact .inr (.inr (.inr (.inr (.inr (.inr (.inl (answered (pid (p := 0xA8#8) (by decide)))))))))
  | p176 => exact .inr (.inr (.inr (.inr (.inr (.inr (.inl (answered (pid (p := 0xB0#8) (by decide)))))))))
  | p184 => exact .inr (.inr (.inr (.inr (.inr (.inr (.inl (answered (pid (p := 0xB8#8) (by decide)))))))))
  | p192 => exact .inr (.inr (.inr (.inr (.inr (.inr (.inl (answered (pid (p := 0xC0#8) (by decide)))))))))
  | p200 => exact .inr (.inr (.inr (.inr (.inr (.inr (.inl (answered (pid (p := 0xC8#8) (by decide)))))))))
  | p208 => exact .inr (.inr (.inr (.inr (.inr (.inr (.inl (answered (pid (p := 0xD0#8) (by decide)))))))))
  | p216 => exact .inr (.inr (.inr (.inr (.inr (.inr (.inl (answered (pid (p := 0xD8#8) (by decide)))))))))
  | p224 => exact .inr (.inr (.inr (.inr (.inr (.inr (.inl (answered (pid (p := 0xE0#8) (by decide)))))))))
  | p232 => exact .inr (.inr (.inr (.inr (.inr (.inr (.inl (answered (pid (p := 0xE8#8) (by decide)))))))))
  | p240 => exact .inr (.inr (.inr (.inr (.inr (.inr (.inl (answered (pid (p := 0xF0#8) (by decide)))))))))

/-- A step's every case, on the state the environment's turn leaves. -/
theorem step_cases (s : State) :
    ((nextTurn s).reset = true ∧ step s = .next (resetEvent (absorb (nextTurn s) s))) ∨
    ((nextTurn s).reset = false ∧ s.phase = .idle ∧ step s = idleStep (absorb (nextTurn s) s)) ∨
    ((nextTurn s).reset = false ∧ s.phase = .sending ∧
      step s = sendStep (nextTurn s).write (absorb (nextTurn s) s)) ∨
    ((nextTurn s).reset = false ∧ s.phase = .waitingForResponse ∧
      step s = waitStep (nextTurn s).read (absorb (nextTurn s) s)) ∨
    ((nextTurn s).reset = false ∧ s.phase = .decoding ∧
      step s = .next (decodeStep (absorb (nextTurn s) s))) := by
  cases hr : (nextTurn s).reset with
  | true => exact .inl ⟨rfl, by simp [step, hr]⟩
  | false =>
    cases hp : s.phase with
    | idle => exact .inr (.inl ⟨rfl, rfl, by simp [step, hr, blockStep, hp]⟩)
    | sending => exact .inr (.inr (.inl ⟨rfl, rfl, by simp [step, hr, blockStep, hp]⟩))
    | waitingForResponse => exact .inr (.inr (.inr (.inl ⟨rfl, rfl, by simp [step, hr, blockStep, hp]⟩)))
    | decoding => exact .inr (.inr (.inr (.inr ⟨rfl, rfl, by simp [step, hr, blockStep, hp]⟩)))

/-- The step in `Idle`: no word, a command word, a word presented by hand, or a rejected ParameterId. -/
theorem idleStep_cases (s : State) :
    (s.bench = none ∧ s.port = [] ∧ idleStep s = .next s) ∨
    (∃ w rest, s.bench = none ∧ s.port = w :: rest ∧ idleStep s = exec (decodeCommand w) { s with port := rest }) ∨
    (∃ f i, s.bench = some f ∧ decodeFormat f = .instr i ∧ idleStep s = exec i { s with bench := none }) ∨
    (∃ f, s.bench = some f ∧ decodeFormat f = .illegal .invalidParameterId ∧
      idleStep s = .next (raiseError .invalidParameter { s with bench := none })) := by
  cases hb : s.bench with
  | some f =>
    cases hd : decodeFormat f with
    | instr i => exact .inr (.inr (.inl ⟨f, i, rfl, hd, by simp [idleStep, fetch_bench hb, decode, hd]⟩))
    | illegal e =>
      cases e
      exact .inr (.inr (.inr ⟨f, rfl, hd, by simp [idleStep, fetch_bench hb, decode, hd, rejectWord]⟩))
  | none =>
    cases hp : s.port with
    | nil => exact .inl ⟨rfl, rfl, by simp [idleStep, fetch_none hb hp]⟩
    | cons w rest => exact .inr (.inl ⟨w, rest, rfl, rfl, by simp [idleStep, fetch_command hb hp, decode, hb]⟩)

/-- A command word is one of the caller's four operations, and nothing else (R2, R81). -/
theorem decodeCommand_cases (w : CommandWord) :
    (∃ b, decodeCommand w = .opInitialize b) ∨ (∃ p a, decodeCommand w = .opQuery p a) ∨
      (∃ p a, decodeCommand w = .opEncode p a) ∨ decodeCommand w = .opDecode := by
  simp only [decodeCommand]
  split
  · exact .inl ⟨_, rfl⟩
  · split
    · exact .inr (.inl ⟨_, _, rfl⟩)
    · split
      · exact .inr (.inr (.inl ⟨_, _, rfl⟩))
      · exact .inr (.inr (.inr rfl))

/-- A word of another format is none of the caller's four operations. -/
theorem decodeFormat_not_command {f : FormatWord} {i : Instr} (h : decodeFormat f = .instr i) :
    (∀ b, i ≠ .opInitialize b) ∧ (∀ p a, i ≠ .opQuery p a) ∧ (∀ p a, i ≠ .opEncode p a) ∧ i ≠ .opDecode := by
  cases f with
  | pid w =>
    simp only [decodeFormat, decodePid] at h
    split at h
    · rename_i r hr
      cases h
      have hm := List.mem_of_find?_eq_some hr
      simp only [pidRows, List.cons_append, List.nil_append, List.mem_cons, List.not_mem_nil, or_false] at hm
      rcases hm with rfl | rfl | rfl | rfl | rfl | rfl | rfl | rfl | rfl | rfl | rfl | rfl | rfl | rfl | rfl | rfl |
        rfl | rfl | rfl | rfl | rfl | rfl | rfl | rfl | rfl | rfl | rfl | rfl | rfl | rfl | rfl <;> simp
    · cases h
  | lookupOperand w => cases h; simp
  | outBits w => cases h; simp
  | respBits w => cases h; simp
  | entryBits w => cases h; simp

/-- So a word presented by hand never moves the block out of `Idle` (R169). -/
theorem exec_format_keeps_idle {f : FormatWord} {i : Instr} {s s' : State} (h : decodeFormat f = .instr i)
    (hp : s.phase = .idle) (he : exec i s = .next s') : s'.phase = .idle := by
  obtain ⟨h1, h2, h3, h4⟩ := decodeFormat_not_command h
  rcases exec_cases i s with ⟨b, hi, -⟩ | ⟨p, a, op, hi | hi, -, -⟩ | ⟨p, a, op, hi | hi, -, -⟩ | ⟨hi, -⟩ |
    ⟨m, -, hx⟩ | ⟨r, -, hx⟩ | ⟨t, hx⟩ | ⟨p, -, -, hx⟩
  · exact absurd hi (h1 b)
  · exact absurd hi.1 (h2 p a)
  · exact absurd hi.1 (h3 p a)
  · exact absurd hi.1 (h2 p a)
  · exact absurd hi.1 (h3 p a)
  · exact absurd hi h4
  all_goals
    rw [hx] at he
    cases he
    first | exact hp | rfl

@[simp] theorem run_zero (s : State) : run 0 s = .next s := rfl

/-- A run goes on from its first step. -/
theorem run_succ {n : Nat} {s s' : State} (h : step s = .next s') : run (n + 1) s = run n s' := by
  have h' : Sys2Proof.core.step s = .next s' := h
  simp only [run, Host.Core.run, h']
  rfl

/-- A run of at least one step that gives a next state takes a first step that gives one. -/
theorem run_succ_inv {n : Nat} {s t : State} (h : run (n + 1) s = .next t) :
    ∃ s', step s = .next s' ∧ run n s' = .next t := by
  cases hs : step s with
  | next u => exact ⟨u, rfl, run_succ hs ▸ h⟩
  | fault r =>
    have h' : Sys2Proof.core.step s = .fault r := hs
    simp only [run, Host.Core.run, h'] at h
    cases h
  | refused r =>
    have h' : Sys2Proof.core.step s = .refused r := hs
    simp only [run, Host.Core.run, h'] at h
    cases h

/-- A run of `m + n` steps is one of `m` and then one of `n`. -/
theorem run_add {m n : Nat} {s s' : State} (h : run m s = .next s') : run (m + n) s = run n s' := by
  induction m generalizing s with
  | zero =>
    cases h
    rw [Nat.zero_add]
  | succ m ih =>
    obtain ⟨u, hs, hr⟩ := run_succ_inv h
    rw [Nat.add_right_comm, run_succ hs, ih hr]

/-- No instruction writes the Command Table: there is no memory write in this hardware (R9, R52). -/
theorem exec_keeps_table {i : Instr} {s s' : State} (h : exec i s = .next s') : s'.table = s.table := by
  rcases exec_cases i s with ⟨b, -, he⟩ | ⟨p, a, op, -, -, he⟩ | ⟨p, a, op, -, -, he⟩ | ⟨-, he⟩ | ⟨m, -, he⟩ |
    ⟨r, -, he⟩ | ⟨t, he⟩ | ⟨p, -, -, he⟩ <;>
  · rw [he] at h
    cases h
    rfl

/-- No instruction puts a word on the bench (log entry 13). -/
theorem exec_keeps_bench {i : Instr} {s s' : State} (h : exec i s = .next s') : s'.bench = s.bench := by
  rcases exec_cases i s with ⟨b, -, he⟩ | ⟨p, a, op, -, -, he⟩ | ⟨p, a, op, -, -, he⟩ | ⟨-, he⟩ | ⟨m, -, he⟩ |
    ⟨r, -, he⟩ | ⟨t, he⟩ | ⟨p, -, -, he⟩ <;>
  · rw [he] at h
    cases h
    rfl

/-- So every instruction keeps the table's canonical form. -/
theorem exec_keeps_wf {i : Instr} {s s' : State} (h : exec i s = .next s') (hw : s.table.wf = true) :
    s'.table.wf = true := exec_keeps_table h ▸ hw

end Sys2Proof.Machine
end

