-- ==== Sys2Proof/WellFormed.lean ====
section
/-! DEFINITION. Which instructions have only legal operands. The types already fix every width and length, so the
one check is R91's class "illegal operand": a `parameter_id` with `ValidParam` false. Such an instruction is still
decoded and still runs; it takes the InvalidParameter error (R176). Every slave address is legal (R88). -/

namespace Sys2Proof

/-- The `parameter_id` operand of an instruction, if it has one. -/
def Instr.parameterId? : Instr → Option Byte
  | .opQuery p _ => some p
  | .opEncode p _ => some p
  | .lookup p => some p
  | .opInitialize _ | .opDecode | .outMsg _ | .resp _ | .entry _ => none
  | .p000 | .p008 | .p016 | .p024 | .p032 | .p040 | .p048 | .p056 => none
  | .p064 | .p072 | .p080 | .p088 | .p096 | .p104 | .p112 | .p120 => none
  | .p128 | .p136 | .p144 | .p152 | .p160 | .p168 | .p176 | .p184 => none
  | .p192 | .p200 | .p208 | .p216 | .p224 | .p232 | .p240 => none

/-- No operand is of R91's class "illegal operand". -/
def Instr.wellFormed (i : Instr) : Bool :=
  match i.parameterId? with
  | some p => validParam p
  | none => true

end Sys2Proof
end

