-- ==== Sys2Proof/Laws/PerInstr.lean ====
section
/-! SUPPORT. Families of statements about every instruction as syntax, one lemma per constructor. -/

namespace Sys2Proof.Laws.EncodedRow

/-- The encoder writes each instruction's word with the width and the fixed bits its row of spec/opcode_table.json
gives (R80, R81). -/
def Statement (i : Instr) : Prop :=
  (encode i).width = i.tableRow.width ∧ (encode i).bits &&& i.tableRow.mask = i.tableRow.fixed

/-- A command word's bits under the mask of its two operation bits. -/
theorem commandWord_masked (op : BitVec 2) (x : BitVec 32) :
    (op ++ x).toNat &&& 0x300000000 = op.toNat <<< 32 := by
  have h : (op ++ x) &&& 0x300000000#34 = op ++ 0#32 := by
    ext i hi
    rw [BitVec.getElem_and, BitVec.getElem_append, BitVec.getElem_append]
    by_cases hlt : i < 32
    · interval_cases i <;> simp
    · have : i = 32 ∨ i = 33 := by omega
      rcases this with rfl | rfl <;> simp
  have h2 := congrArg BitVec.toNat h
  rw [BitVec.toNat_and] at h2
  rw [show (0x300000000 : Nat) = (0x300000000#34).toNat from rfl, h2, BitVec.toNat_append]
  simp

/-- A command word is its operation bits and 32 operand bits. -/
theorem commandWord_split (op : BitVec 2) (r : BitVec 16) (x y : Byte) :
    commandWord op r x y = op ++ (r ++ x ++ y) := by
  unfold commandWord
  rw [BitVec.append_assoc, BitVec.append_assoc, BitVec.append_assoc]
  simp

theorem opInitialize (b : BitVec 32) : Statement (.opInitialize b) :=
  ⟨rfl, by
    show (0#2 ++ b).toNat &&& 0x300000000 = 0
    simpa using commandWord_masked 0#2 b⟩

theorem opQuery (p a : Byte) : Statement (.opQuery p a) :=
  ⟨rfl, by
    show (commandWord 1#2 0#16 p a).toNat &&& 0x300000000 = 0x100000000
    rw [commandWord_split]; simpa using commandWord_masked 1#2 (0#16 ++ p ++ a)⟩

theorem opEncode (p a : Byte) : Statement (.opEncode p a) :=
  ⟨rfl, by
    show (commandWord 2#2 0#16 p a).toNat &&& 0x300000000 = 0x200000000
    rw [commandWord_split]; simpa using commandWord_masked 2#2 (0#16 ++ p ++ a)⟩

theorem opDecode : Statement .opDecode := ⟨rfl, by decide⟩

theorem lookup (p : Byte) : Statement (.lookup p) := ⟨rfl, by simp [Instr.tableRow]⟩

theorem p000 : Statement .p000 := ⟨rfl, by decide⟩
theorem p008 : Statement .p008 := ⟨rfl, by decide⟩
theorem p016 : Statement .p016 := ⟨rfl, by decide⟩
theorem p024 : Statement .p024 := ⟨rfl, by decide⟩
theorem p032 : Statement .p032 := ⟨rfl, by decide⟩
theorem p040 : Statement .p040 := ⟨rfl, by decide⟩
theorem p048 : Statement .p048 := ⟨rfl, by decide⟩
theorem p056 : Statement .p056 := ⟨rfl, by decide⟩
theorem p064 : Statement .p064 := ⟨rfl, by decide⟩
theorem p072 : Statement .p072 := ⟨rfl, by decide⟩
theorem p080 : Statement .p080 := ⟨rfl, by decide⟩
theorem p088 : Statement .p088 := ⟨rfl, by decide⟩
theorem p096 : Statement .p096 := ⟨rfl, by decide⟩
theorem p104 : Statement .p104 := ⟨rfl, by decide⟩
theorem p112 : Statement .p112 := ⟨rfl, by decide⟩
theorem p120 : Statement .p120 := ⟨rfl, by decide⟩
theorem p128 : Statement .p128 := ⟨rfl, by decide⟩
theorem p136 : Statement .p136 := ⟨rfl, by decide⟩
theorem p144 : Statement .p144 := ⟨rfl, by decide⟩
theorem p152 : Statement .p152 := ⟨rfl, by decide⟩
theorem p160 : Statement .p160 := ⟨rfl, by decide⟩
theorem p168 : Statement .p168 := ⟨rfl, by decide⟩
theorem p176 : Statement .p176 := ⟨rfl, by decide⟩
theorem p184 : Statement .p184 := ⟨rfl, by decide⟩
theorem p192 : Statement .p192 := ⟨rfl, by decide⟩
theorem p200 : Statement .p200 := ⟨rfl, by decide⟩
theorem p208 : Statement .p208 := ⟨rfl, by decide⟩
theorem p216 : Statement .p216 := ⟨rfl, by decide⟩
theorem p224 : Statement .p224 := ⟨rfl, by decide⟩
theorem p232 : Statement .p232 := ⟨rfl, by decide⟩
theorem p240 : Statement .p240 := ⟨rfl, by decide⟩

theorem outMsg (m : Frame) : Statement (.outMsg m) := ⟨rfl, by simp [Instr.tableRow]⟩

theorem resp (r : Payload) : Statement (.resp r) := ⟨rfl, by simp [Instr.tableRow]⟩

theorem entry (e : Entry) : Statement (.entry e) := ⟨rfl, by simp [Instr.tableRow]⟩

end Sys2Proof.Laws.EncodedRow
end

