-- ==== Sys2Proof/Tests/Slice0.lean ====
section
/-! SUPPORT. The model's own tests, on small fixed states: expected results are the spec's (95_test_vectors.md and the
encodings of 30_encoding.md), worked out there and not by the model. Then, for every obligation with hypotheses, a
witness that meets them. -/

namespace Sys2Proof.Tests

open Sys2Proof Sys2Proof.Machine

set_option maxRecDepth 8000

/-! ## Fixtures -/

/-- `T_ID`: `T_ID[a] = a` (95_test_vectors.md; not the EM6430 table). -/
def tId : Memory := (List.range 248).map fun a => (a, BitVec.ofNat 8 a)

/-- `T_INV`: `T_INV[a] = 255 - a`. -/
def tInv : Memory := (List.range 248).map fun a => (a, BitVec.ofNat 8 (255 - a))

/-- A configured, idle block with a table. -/
def ready (m : Memory) : State :=
  { State.reset with config := some { baud := 9600#32, dataBits := 8, parity := .even, stopBits := 1 }, table := m }

/-- The frame of QUERY or ENCODE `0x00, 5` on `T_ID` (V-E1). -/
def frame1 : Frame := #v[0x05#8, 0x01#8, 0x02#8, 0x03#8, 0x04#8, 0x05#8, 0x06#8, 0x07#8]

/-- A block sending `frame1`, `n` bytes out, the next turn `t`. -/
def sending (op : OpCode) (n : Fin 9) (t : EnvTurn) : State :=
  { ready [] with
    phase := .sending, curop := op, txbuf := frame1, txcnt := n
    txlog := frame1.toList.take n.val, env := [t] }

/-- A block waiting with some bytes buffered, the next turn `t`. -/
def waiting (rx : List Byte) (t : EnvTurn) : State :=
  { ready tId with phase := .waitingForResponse, curop := .query, rxfifo := rx, env := [t] }

/-- The response that carries 200.0 (V-S6b). -/
def resp200 : Payload := #v[0x41#8, 0x41#8, 0x41#8, 0x41#8, 0x41#8, 0x43#8, 0x48#8, 0x00#8, 0x00#8]

/-- The bytes `00 01 … 0n`. -/
def counting (n : Nat) : List Byte := (List.range n).map (BitVec.ofNat 8)

/-- Whether an outcome is a next state with a property. -/
def nextIs (o : Host.Outcome State Fault Refusal) (p : State → Bool) : Bool :=
  match o with
  | .next s => p s
  | .fault _ => false
  | .refused _ => false

/-- Whether an outcome is a refusal for an unconfigured transport. -/
def isUnconfigured (o : Host.Outcome State Fault Refusal) : Bool :=
  match o with
  | .next _ => false
  | .fault _ => false
  | .refused r => decide (r = .transportUnconfigured)

/-! ## WellFormed: each check refuses an ill-formed term, and passes a well-formed one -/

theorem test_illFormed_operands :
    (Instr.opQuery 0x04#8 5#8).wellFormed = false ∧ (Instr.opEncode 0xF8#8 0#8).wellFormed = false ∧
    (Instr.lookup 0xFF#8).wellFormed = false := by decide

theorem test_wellFormed_operands :
    (Instr.opQuery 0xF0#8 0#8).wellFormed = true ∧ (Instr.opEncode 0x00#8 0xFF#8).wellFormed = true ∧
    (Instr.lookup 0x80#8).wellFormed = true ∧ Instr.p240.wellFormed = true := by decide

/-! ## Decoding, from words written out from the spec -/

/-- V-C1 to V-C11, the operation code in bits 33 and 32 (R81). -/
theorem test_decode_commandWords :
    decode (.cw 0x00001C200#34) = .instr (.opInitialize 115200#32) ∧
    decode (.cw 0x100000405#34) = .instr (.opQuery 0x04#8 0x05#8) ∧
    decode (.cw 0x1ABCD0005#34) = .instr (.opQuery 0x00#8 0x05#8) ∧
    decode (.cw 0b1000000000000000000000100000000001#34) = .instr (.opEncode 0x08#8 0x01#8) ∧
    decode (.cw 0b1100000000000000000000000000000000#34) = .instr .opDecode := by decide

/-- The 31 ParameterIds of R82, each of its own row. -/
theorem test_decode_parameterIds :
    ∀ r ∈ ([(0x00#8, .p000), (0x08#8, .p008), (0x10#8, .p016), (0x18#8, .p024),
   (0x20#8, .p032), (0x28#8, .p040), (0x30#8, .p048), (0x38#8, .p056),
   (0x40#8, .p064), (0x48#8, .p072), (0x50#8, .p080), (0x58#8, .p088),
   (0x60#8, .p096), (0x68#8, .p104), (0x70#8, .p112), (0x78#8, .p120),
   (0x80#8, .p128), (0x88#8, .p136), (0x90#8, .p144), (0x98#8, .p152),
   (0xA0#8, .p160), (0xA8#8, .p168), (0xB0#8, .p176), (0xB8#8, .p184),
   (0xC0#8, .p192), (0xC8#8, .p200), (0xD0#8, .p208), (0xD8#8, .p216),
   (0xE0#8, .p224), (0xE8#8, .p232), (0xF0#8, .p240)] : List (Byte × Instr)),
      decode (.fmt (.pid r.1)) = .instr r.2 := by decide

/-- V-P6 to V-P14: rejected ParameterIds. -/
theorem test_decode_invalidParameterIds :
    ∀ p ∈ [0xF8#8, 0x01#8, 0x04#8, 0x07#8, 0x09#8, 0xEF#8, 0xF1#8, 0xF7#8, 0xFF#8],
      decode (.fmt (.pid p)) = .illegal .invalidParameterId := by decide

theorem test_decode_lookup : decode (.fmt (.lookupOperand 0x10#8)) = .instr (.lookup 0x10#8) := by decide

/-- R84 to R86: the first byte is the most significant of the pattern. -/
theorem test_decode_formats :
    decode (.fmt (.outBits 0x0511121314151617#64)) = .instr (.outMsg #v[0x05#8, 0x11#8, 0x12#8, 0x13#8, 0x14#8, 0x15#8, 0x16#8, 0x17#8]) ∧
    decode (.fmt (.respBits 0x112233445566778899#72)) = .instr (.resp #v[0x11#8, 0x22#8, 0x33#8, 0x44#8, 0x55#8, 0x66#8, 0x77#8, 0x88#8, 0x99#8]) ∧
    decode (.fmt (.entryBits 0x1011121314151617#64)) = .instr (.entry #v[0x10#8, 0x11#8, 0x12#8, 0x13#8, 0x14#8, 0x15#8, 0x16#8, 0x17#8]) := by decide

/-- The opcode table's numbering: each row's width and match. -/
theorem test_decodeTableWord :
    decodeTableWord 40 0x100000005 = some (.opQuery 0x00#8 0x05#8) ∧
    decodeTableWord 40 0x300000000 = some .opDecode ∧
    decodeTableWord 40 0x400000000 = none ∧
    decodeTableWord 8 0x78 = some .p120 ∧
    decodeTableWord 8 0x04 = some (.lookup 0x04#8) ∧
    decodeTableWord 64 0x0501020304050607 = some (.outMsg frame1) ∧
    decodeTableWord 72 0x414141414143480000 = some (.resp resp200) := by decide

/-! ## The datapath -/

/-- V-D rows: received bytes, `W64` (the 64-bit result), the 32-bit result. -/
theorem test_decodeValue :
    ∀ r ∈ ([(#v[0x41#8, 0x41#8, 0x41#8, 0x41#8, 0x41#8, 0x43#8, 0x48#8, 0x00#8, 0x00#8], 0x4141414143480000#64, 0x43480000#32),
   (#v[0x41#8, 0x41#8, 0x41#8, 0x41#8, 0x41#8, 0x41#8, 0x42#8, 0x48#8, 0x00#8], 0x4141414141424800#64, 0x41424800#32),
   (#v[0x00#8, 0x01#8, 0x02#8, 0x03#8, 0x04#8, 0x05#8, 0x06#8, 0x07#8, 0x08#8], 0x0102030405060708#64, 0x05060708#32),
   (#v[0x01#8, 0x02#8, 0x03#8, 0x04#8, 0x05#8, 0x06#8, 0x07#8, 0x08#8, 0x09#8], 0x0203040506070809#64, 0x06070809#32),
   (#v[0x11#8, 0x22#8, 0x33#8, 0x44#8, 0x55#8, 0x66#8, 0x77#8, 0x88#8, 0x99#8], 0x2233445566778899#64, 0x66778899#32),
   (#v[0xFF#8, 0xFF#8, 0xFF#8, 0xFF#8, 0xFF#8, 0xFF#8, 0xFF#8, 0xFF#8, 0xFF#8], 0xFFFFFFFFFFFFFFFF#64, 0xFFFFFFFF#32),
   (#v[0xDE#8, 0xAD#8, 0xBE#8, 0xEF#8, 0x00#8, 0xC0#8, 0x20#8, 0x00#8, 0x00#8], 0xADBEEF00C0200000#64, 0xC0200000#32),
   (#v[0x09#8, 0x09#8, 0x09#8, 0x09#8, 0x09#8, 0x80#8, 0x00#8, 0x00#8, 0x00#8], 0x0909090980000000#64, 0x80000000#32),
   (#v[0x01#8, 0x02#8, 0x03#8, 0x04#8, 0x05#8, 0x7F#8, 0xC0#8, 0x00#8, 0x01#8], 0x020304057FC00001#64, 0x7FC00001#32),
   (#v[0x05#8, 0x40#8, 0x69#8, 0x00#8, 0x00#8, 0x00#8, 0x00#8, 0x00#8, 0x00#8], 0x4069000000000000#64, 0x00000000#32),
   (#v[0x05#8, 0x03#8, 0x04#8, 0x43#8, 0x66#8, 0x00#8, 0x00#8, 0xAA#8, 0xBB#8], 0x030443660000AABB#64, 0x0000AABB#32),
   (#v[0xAA#8, 0xBB#8, 0x41#8, 0x41#8, 0x41#8, 0x41#8, 0x41#8, 0x43#8, 0x48#8], 0xBB41414141414348#64, 0x41414348#32)] : List (Payload × BitVec 64 × BitVec 32)),
      decodeValue .w64 r.1 = r.2.1 ∧ decodeValue .w32 r.1 = r.2.2 := by decide

/-- V-L1, V-L3, V-L4, V-L5 and V-L6, V-L7. -/
theorem test_lookup :
    lookupTemplate tId 0x00#8 = .ok #v[0x01#8, 0x02#8, 0x03#8, 0x04#8, 0x05#8, 0x06#8, 0x07#8] ∧
    lookupTemplate tId 0xF0#8 = .ok #v[0xF1#8, 0xF2#8, 0xF3#8, 0xF4#8, 0xF5#8, 0xF6#8, 0xF7#8] ∧
    lookupTemplate tInv 0xF0#8 = .ok #v[0x0E#8, 0x0D#8, 0x0C#8, 0x0B#8, 0x0A#8, 0x09#8, 0x08#8] ∧
    lookupTemplate tId 0xF8#8 = .error .invalidParameter ∧
    lookupTemplate tId 0x04#8 = .error .invalidParameter := by decide

/-! ## One step of each kind of word -/

/-- V-I1. -/
theorem test_initialize :
    nextIs (exec (.opInitialize 9600#32) State.reset) (fun t =>
      decide (t.config = some ⟨9600#32, 8, .even, 1⟩ ∧ t.status = .ok ∧ t.phase = .idle ∧ t.txlog = [])) := by decide

/-- V-I3: RESULT and RESULT_VALID survive. -/
theorem test_initialize_keeps_result :
    nextIs (exec (.opInitialize 9600#32) { ready [] with result := 0x43480000#32, resultValid := true })
      (fun t => t.resultValid && t.result == 0x43480000#32) := by decide

/-- V-E6. -/
theorem test_query_accept :
    nextIs (exec (.opQuery 0xF0#8 0xFE#8) (ready tId)) (fun t =>
      decide (t.txbuf = #v[0xFE#8, 0xF1#8, 0xF2#8, 0xF3#8, 0xF4#8, 0xF5#8, 0xF6#8, 0xF7#8] ∧ t.phase = .sending ∧ t.curop = .query ∧ t.txcnt = 0 ∧
        t.resultValid = false)) := by decide

/-- V-X5. -/
theorem test_query_invalid :
    nextIs (exec (.opQuery 0xF7#8 0xFF#8) (ready tId)) (fun t =>
      decide (t.status = .invalidParameter ∧ t.phase = .idle ∧ t.txlog = [] ∧ t.resultValid = false)) := by decide

/-- V-E15: address 0 passes through; the other table. -/
theorem test_encode_accept :
    nextIs (exec (.opEncode 0xF0#8 0x00#8) (ready tInv)) (fun t =>
      decide (t.txbuf = #v[0x00#8, 0x0E#8, 0x0D#8, 0x0C#8, 0x0B#8, 0x0A#8, 0x09#8, 0x08#8] ∧ t.phase = .sending ∧ t.curop = .encode)) := by decide

/-- V-X6. -/
theorem test_encode_invalid :
    nextIs (exec (.opEncode 0x07#8 1#8) { ready tId with rxfifo := [0xAA#8] }) (fun t =>
      decide (t.status = .invalidParameter ∧ t.phase = .idle ∧ t.rxfifo = [0xAA#8])) := by decide

/-- PROG4, row 11. -/
theorem test_decode_accept :
    nextIs (exec .opDecode (ready tInv)) (fun t =>
      decide (t.curop = .decode ∧ t.phase = .waitingForResponse ∧ t.resultValid = false)) := by decide

theorem test_lookup_word :
    nextIs (exec (.lookup 0x10#8) (ready tId)) (fun t =>
      decide (t.lookupOut = some #v[0x11#8, 0x12#8, 0x13#8, 0x14#8, 0x15#8, 0x16#8, 0x17#8] ∧ t.phase = .idle ∧ t.status = .ok)) := by decide

/-- `table_addresses_read` of the rows: the last entry and one in the middle. -/
theorem test_parameter_words :
    nextIs (exec .p240 (ready tId)) (fun t => decide (t.lookupOut = some #v[0xF1#8, 0xF2#8, 0xF3#8, 0xF4#8, 0xF5#8, 0xF6#8, 0xF7#8])) ∧
    nextIs (exec .p120 (ready tId)) (fun t => decide (t.lookupOut = some #v[0x79#8, 0x7A#8, 0x7B#8, 0x7C#8, 0x7D#8, 0x7E#8, 0x7F#8])) := by decide

theorem test_entry_word :
    nextIs (exec (.entry #v[0x10#8, 0x11#8, 0x12#8, 0x13#8, 0x14#8, 0x15#8, 0x16#8, 0x17#8]) (ready [])) (fun t =>
      decide (t.lookupOut = some #v[0x11#8, 0x12#8, 0x13#8, 0x14#8, 0x15#8, 0x16#8, 0x17#8])) := by decide

theorem test_out_word :
    nextIs (exec (.outMsg frame1) (ready [])) (fun t =>
      decide (t.wireOut = some frame1 ∧ t.phase = .idle ∧ t.txlog = [])) := by decide

theorem test_resp_word :
    nextIs (exec (.resp resp200) { ready [] with rxfifo := [0xAA#8] }) (fun t =>
      decide (t.rxfifo = 0xAA#8 :: resp200.toList ∧ t.phase = .idle)) := by decide

/-! ## The block's own steps -/

theorem test_send_fourth_byte :
    nextIs (step (sending .query 3 EnvTurn.quiet)) (fun t =>
      decide (t.txlog = [0x05#8, 0x01#8, 0x02#8, 0x03#8] ∧ t.txcnt = 4 ∧ t.phase = .sending)) := by decide

/-- V-X7, both ways. -/
theorem test_send_fails :
    nextIs (step (sending .query 3 { EnvTurn.quiet with write := .failed false })) (fun t =>
      decide (t.txlog = [0x05#8, 0x01#8, 0x02#8] ∧ t.status.code = 2 ∧ t.phase = .idle)) ∧
    nextIs (step (sending .query 3 { EnvTurn.quiet with write := .failed true })) (fun t =>
      decide (t.txlog = [0x05#8, 0x01#8, 0x02#8, 0x03#8] ∧ t.status.code = 2 ∧ t.phase = .idle)) := by decide

theorem test_end_of_sending :
    nextIs (step (sending .query 8 EnvTurn.quiet)) (fun t => decide (t.phase = .waitingForResponse)) ∧
    nextIs (step (sending .encode 8 EnvTurn.quiet)) (fun t => decide (t.phase = .idle ∧ t.status = .ok)) := by decide

/-- V-X10 and V-X11. -/
theorem test_wait_eight_then_nine :
    nextIs (step (waiting (counting 8) EnvTurn.quiet)) (fun t =>
      decide (t.phase = .waitingForResponse ∧ t.rxfifo = counting 8)) ∧
    nextIs (step (waiting (counting 8) { EnvTurn.quiet with arrive := [0x08#8] })) (fun t =>
      decide (t.phase = .decoding ∧ t.rxbuf.toList = counting 9 ∧ t.rxfifo = [])) := by decide

/-- V-S5 and V-X12: the surplus is flushed. -/
theorem test_read_twenty :
    nextIs (step (waiting (counting 20) EnvTurn.quiet)) (fun t =>
      decide (t.rxbuf.toList = counting 9 ∧ t.rxfifo = [])) := by decide

/-- V-X9: no flush on a failed read. -/
theorem test_read_fails :
    nextIs (step (waiting (counting 12) { EnvTurn.quiet with read := .failed 3 })) (fun t =>
      decide (t.status = .transportError ∧ t.phase = .idle ∧ t.rxfifo = (counting 12).drop 3)) := by decide

/-- PROG1, row 15. -/
theorem test_decode_step :
    nextIs (step { ready [] with phase := .decoding, curop := .query, rxbuf := resp200 }) (fun t =>
      decide (t.result = 0x43480000#32 ∧ t.resultValid = true ∧ t.status = .ok ∧ t.phase = .idle)) := by decide

/-- V-X13. -/
theorem test_reset_while_sending :
    nextIs (step (sending .query 3 { EnvTurn.quiet with reset := true })) (fun t =>
      decide (t.phase = .idle ∧ t.status = .ok ∧ t.resultValid = false ∧ t.config = none ∧
        t.txlog = [0x05#8, 0x01#8, 0x02#8])) := by decide

/-- R203. -/
theorem test_unconfigured :
    isUnconfigured (step { sending .query 0 EnvTurn.quiet with config := none }) ∧
    isUnconfigured (step { waiting (counting 9) EnvTurn.quiet with config := none }) := by decide

/-- R160: a command offered while busy stays at the port. -/
theorem test_busy_holds_command :
    nextIs (step { waiting [] EnvTurn.quiet with port := [0x000002580#34] }) (fun t =>
      decide (t.port = [0x000002580#34] ∧ t.config = (ready []).config)) := by decide

/-- A placed word is the first to run after reset. -/
theorem test_first_word_after_reset :
    nextIs (step (State.reset.withFetchWord 40 0x000002580)) (fun t =>
      decide (t.config = some ⟨9600#32, 8, .even, 1⟩ ∧ t.port = [] ∧ t.env = [])) ∧
    nextIs (step (State.reset.withFetchWord 40 0x10000F0FE)) (fun t =>
      decide (t.phase = .sending ∧ t.saddr = 0xFE#8)) ∧
    nextIs (step (State.reset.withFetchWord 8 0xFF)) (fun t => decide (t.status = .invalidParameter)) := by decide

/-- R95. -/
theorem test_completion_record :
    completionRecord .encode { ready [] with txbuf := frame1 } = some ⟨.ok, none, some frame1⟩ ∧
    completionRecord .query { ready [] with result := 7#32, resultValid := true } = some ⟨.ok, some 7#32, none⟩ ∧
    completionRecord .query (sending .query 0 EnvTurn.quiet) = none := by decide

/-! ## Witnesses: the hypotheses of the obligations can be met -/

/-- Valid and invalid ParameterIds at the ends of their ranges: LookupReturnsTemplateOneToSeven, LookupAnswersOrRaises,
OutOfAFrameIsItsEncode, ValidQueryAndEncodeAssembleFrame, InvalidQueryAndEncodeWriteNothing. -/
theorem witness_validParam :
    validParam 0x00#8 = true ∧ validParam 0xF0#8 = true ∧ validParam 0x01#8 = false ∧ validParam 0xF8#8 = false ∧
    validParam 0xFF#8 = false := by decide

theorem witness_ParameterRowsAnswerTheirEntry :
    (Instr.p000, 0) ∈ parameterRows ∧ (Instr.p240, 240) ∈ parameterRows ∧ parameterRows.length = 31 := by decide

theorem witness_StepRunsTheDecodedInstruction :
    let s := { ready tId with port := [0x100000005#34, 0x300000000#34] }
    s.NoReset ∧ s.phase = .idle ∧
      s.bench = none ∧ s.port ++ (nextTurn s).offer = 0x100000005#34 :: [0x300000000#34] ∧
      decode (.cw 0x100000005#34) = .instr (.opQuery 0x00#8 0x05#8) := by decide

/-- Its second clause: a word presented by hand goes before a command word. -/
theorem witness_StepRunsTheDecodedInstruction_bench :
    let s := { ready tId with bench := some (.pid 0xF0#8), port := [0x300000000#34] }
    s.NoReset ∧ s.phase = .idle ∧ decode (.fmt (.pid 0xF0#8)) = .instr .p240 := by decide

theorem witness_RejectedParameterIdRaises :
    let s := { ready tId with bench := some (.pid 0xF8#8) }
    s.NoReset ∧ s.phase = .idle ∧ s.bench = some (.pid 0xF8#8) ∧ validParam 0xF8#8 = false := by decide

theorem witness_PlacedTableWordRuns :
    decodeTableWord 40 0x300000000 = some .opDecode ∧ decodeTableWord 8 0xF0 = some .p240 := by decide

theorem witness_BusyBlockHoldsOfferedCommands :
    let s := { sending .query 0 EnvTurn.quiet with port := [0x300000000#34] }
    s.NoReset ∧ s.phase ≠ .idle ∧ ∃ t, step s = .next t :=
  ⟨by decide, by decide, _, rfl⟩

theorem witness_IdleBlockWithoutCommandRests :
    (ready tId).NoReset ∧ (ready tId).phase = .idle ∧ (ready tId).bench = none ∧
      (ready tId).port ++ (nextTurn (ready tId)).offer = [] := by decide

/-- The first byte and the last. -/
theorem witness_SendStepHandsOverOneByte :
    ∀ n ∈ ([0, 7] : List (Fin 9)),
      let s := sending .query n EnvTurn.quiet
      s.txcnt.val < 8 ∧ s.NoReset ∧ s.phase = .sending ∧ s.Configured ∧ (nextTurn s).write = .accepted := by decide

theorem witness_FailedWriteEndsWithTransportError :
    ∀ l ∈ [true, false],
      let s := sending .encode 7 { EnvTurn.quiet with write := .failed l }
      s.txcnt.val < 8 ∧ s.NoReset ∧ s.phase = .sending ∧ s.Configured ∧ (nextTurn s).write = .failed l := by decide

theorem witness_EndOfSendingSplitsByOperation :
    ∀ op ∈ [OpCode.query, OpCode.encode],
      let s := sending op 8 EnvTurn.quiet
      s.NoReset ∧ s.phase = .sending ∧ s.txcnt.val = 8 ∧ s.curop = op := by decide

/-- Eight bytes, and nine. -/
theorem witness_WaitEndsExactlyWithTheNinthByte :
    (∀ n ∈ [8, 9],
      let s := waiting (counting n) EnvTurn.quiet
      s.NoReset ∧ s.phase = .waitingForResponse ∧ s.Configured) ∧
    ((waiting (counting 8) EnvTurn.quiet).rxfifo ++ []).length < 9 ∧
    9 ≤ ((waiting (counting 9) EnvTurn.quiet).rxfifo ++ []).length := by decide

theorem witness_NineOldestBytesAreReadAndRestFlushed :
    let s := waiting resp200.toList { EnvTurn.quiet with arrive := [0x12#8, 0x34#8] }
    s.NoReset ∧ s.phase = .waitingForResponse ∧ s.Configured ∧ (nextTurn s).read = .delivered ∧
      s.rxfifo ++ (nextTurn s).arrive = resp200.toList ++ [0x12#8, 0x34#8] := by decide

theorem witness_FailedReadEndsWithoutResult :
    ∀ k ∈ ([0, 9] : List (Fin 10)),
      let s := waiting (counting 9) { EnvTurn.quiet with read := .failed k }
      s.NoReset ∧ s.phase = .waitingForResponse ∧ s.Configured ∧ (nextTurn s).read = .failed k ∧
        9 ≤ (s.rxfifo ++ (nextTurn s).arrive).length := by decide

theorem witness_DecodeStepDeliversLastFourBytes :
    let s := { ready tId with phase := .decoding, rxbuf := resp200 }
    s.NoReset ∧ s.phase = .decoding := by decide

theorem witness_StaleBytesShiftTheResponse :
    let s := waiting [0xAA#8, 0xBB#8] { EnvTurn.quiet with arrive := resp200.toList }
    s.NoReset ∧ s.phase = .waitingForResponse ∧ s.Configured ∧ (nextTurn s).read = .delivered ∧
      s.rxfifo.length < 9 ∧ (nextTurn s).arrive = resp200.toList := by decide

theorem witness_UnconfiguredTransportCallIsRefused :
    (let s := { sending .query 7 EnvTurn.quiet with config := none };
      s.NoReset ∧ s.config = none ∧ s.phase = .sending ∧ s.txcnt.val < 8) ∧
    (let s := { waiting [] EnvTurn.quiet with config := none };
      s.NoReset ∧ s.config = none ∧ s.phase = .waitingForResponse) := by decide

theorem witness_ResetEventReturnsToIdle :
    (nextTurn (sending .query 3 { EnvTurn.quiet with reset := true })).reset = true := by decide

theorem witness_CompletionRecordShowsEndedOperation :
    completionRecord .encode { ready [] with txbuf := frame1 } = some ⟨.ok, none, some frame1⟩ ∧
    completionRecord .decode { ready [] with result := 7#32, resultValid := true } = some ⟨.ok, some 7#32, none⟩ := by
  decide

/-- R95 after INITIALIZE: an OK QUERY's RESULT survives (V-I3), but only STATUS is reported. -/
theorem witness_CompletionRecordShowsEndedOperation_init :
    let s := { ready [] with result := 0x43480000#32, resultValid := true }
    nextIs (exec (.opInitialize 9600#32) s) (fun t =>
      decide (t.resultValid = true ∧ t.result = 0x43480000#32 ∧
        completionRecord .init t = some ⟨.ok, none, none⟩ ∧
        completionRecord .query s = some ⟨.ok, some 0x43480000#32, none⟩)) := by decide

/-- Turns for a whole QUERY: the response comes in two chunks (V-S4) with surplus bytes, the last after the flush. -/
def queryTurns : List EnvTurn :=
  List.replicate 4 EnvTurn.quiet ++ [{ EnvTurn.quiet with arrive := resp200.toList.take 5 }] ++
    List.replicate 5 EnvTurn.quiet ++ [{ EnvTurn.quiet with arrive := resp200.toList.drop 5 ++ [0x12#8] }] ++
    [{ EnvTurn.quiet with arrive := [0x34#8] }]

/-- QueryRunDeliversMeasurement and TransientRegistersCarryNothing. -/
theorem witness_QueryRunDeliversMeasurement :
    let s := { ready tId with port := [commandWord 1#2 0xABCD#16 0x00#8 5#8], env := queryTurns ++ [] }
    s.phase = .idle ∧ s.bench = none ∧ s.Configured ∧ validParam 0x00#8 = true ∧ s.port = commandWord 1#2 0xABCD#16 0x00#8 5#8 :: [] ∧
      s.env = queryTurns ++ [] ∧ queryTurns.length = 12 ∧ (∀ t ∈ queryTurns, t.NoFail) ∧
      s.rxfifo ++ arrivals (queryTurns.take 11) = resp200.toList ++ [0x12#8] := by decide

theorem witness_EncodeRunSendsExactlyItsFrame :
    let s := { ready tId with port := [commandWord 2#2 0#16 0xF0#8 0#8], env := queryTurns.take 10 ++ [] }
    s.phase = .idle ∧ s.bench = none ∧ s.Configured ∧ validParam 0xF0#8 = true ∧ s.port = commandWord 2#2 0#16 0xF0#8 0#8 :: [] ∧
      s.env = queryTurns.take 10 ++ [] ∧ (queryTurns.take 10).length = 10 ∧
      (∀ t ∈ queryTurns.take 10, t.NoFail) := by decide

theorem witness_DecodeRunDeliversMeasurement :
    let ts := [EnvTurn.quiet, { EnvTurn.quiet with arrive := resp200.toList }, EnvTurn.quiet]
    let s := { ready tId with port := [3#2 ++ 0#32], env := ts ++ [] }
    s.phase = .idle ∧ s.bench = none ∧ s.Configured ∧ s.port = (3#2 ++ 0#32) :: [] ∧ s.env = ts ++ [] ∧ ts.length = 3 ∧
      (∀ t ∈ ts, t.NoFail) ∧ s.rxfifo ++ arrivals (ts.take 2) = resp200.toList ++ [] := by decide

/-- PROG5: five bytes, then silence. -/
theorem witness_WaitIsUnboundedBelowNineBytes :
    let ts := [{ EnvTurn.quiet with arrive := counting 5 }, EnvTurn.quiet,
      { EnvTurn.quiet with arrive := [0xC0#8, 0xF1#8], offer := [0x100000005#34] }]
    let s := { waiting [0x83#8] EnvTurn.quiet with env := ts ++ [] }
    s.phase = .waitingForResponse ∧ s.Configured ∧ s.env = ts ++ [] ∧ (∀ t ∈ ts, t.reset = false) ∧
      (s.rxfifo ++ arrivals ts).length < 9 := by decide

/-- Both of its cases: an ENCODE that ends `OK`, with bytes that arrive later, and one whose fourth write fails. -/
theorem witness_QueryIsEncodeThenDecode :
    let good := List.replicate 10 EnvTurn.quiet
    let bad := List.replicate 4 EnvTurn.quiet ++ [{ EnvTurn.quiet with write := .failed true }] ++
      List.replicate 5 EnvTurn.quiet
    let us := [{ EnvTurn.quiet with arrive := resp200.toList }, EnvTurn.quiet]
    let s := ready tId
    s.phase = .idle ∧ s.bench = none ∧ s.Configured ∧
      (∀ ts ∈ [good, bad], ts.length = 10 ∧ ∀ t ∈ ts ++ us, t.reset = false ∧ t.offer = []) ∧
      nextIs (run 10 { s with port := [commandWord 2#2 0#16 0x10#8 5#8], env := good })
        (fun e => decide (e.status = .ok)) ∧
      nextIs (run 10 { s with port := [commandWord 2#2 0#16 0x10#8 5#8], env := bad })
        (fun e => decide (e.status = .transportError)) := by decide

/-- PROG3's two QUERYs, answered. -/
theorem witness_TwoQueriesNeverInterleave :
    let ts' := List.replicate 10 EnvTurn.quiet ++
      [{ EnvTurn.quiet with arrive := resp200.toList.drop 1 }, EnvTurn.quiet]
    let s := { ready tId with
      port := [commandWord 1#2 0xABCD#16 0x00#8 5#8, commandWord 1#2 0#16 0x08#8 5#8]
      env := queryTurns ++ (ts' ++ []) }
    s.phase = .idle ∧ s.bench = none ∧ s.Configured ∧ validParam 0x00#8 = true ∧ validParam 0x08#8 = true ∧
      s.port = [commandWord 1#2 0xABCD#16 0x00#8 5#8, commandWord 1#2 0#16 0x08#8 5#8] ∧
      s.env = queryTurns ++ (ts' ++ []) ∧ queryTurns.length = 12 ∧ ts'.length = 12 ∧
      (∀ t ∈ queryTurns, t.NoFail) ∧ (∀ t ∈ ts', t.NoFail) ∧
      s.rxfifo ++ arrivals (queryTurns.take 11) = resp200.toList ++ [0x12#8] ∧
      arrivals (queryTurns.drop 11) ++ arrivals (ts'.take 11) =
        (resp200.set 0 0x34#8).toList ++ [] := by decide

/-- A valid QUERY whose fourth write fails, and an invalid one. -/
theorem witness_QueryHasOnlyTheseOutcomes :
    let ts := List.replicate 4 EnvTurn.quiet ++ [{ EnvTurn.quiet with write := .failed true, arrive := [0xAA#8] }]
    ∀ p ∈ [0x00#8, 0xF8#8],
      let s := { ready tId with port := [commandWord 1#2 0#16 p 5#8], env := ts ++ [] }
      s.phase = .idle ∧ s.bench = none ∧ s.Configured ∧ s.port = [commandWord 1#2 0#16 p 5#8] ∧ s.env = ts ++ [] ∧ ts ≠ [] ∧
        (∀ t ∈ ts, t.reset = false ∧ t.offer = []) := by decide

/-- A state in mid-frame that meets the invariant: EveryStepKeepsTheInvariant, StepsAreSafeOnAConfiguredTransport. -/
theorem witness_inv : (sending .query 3 EnvTurn.quiet).Inv :=
  ⟨by decide, by decide, by decide, by decide, by decide, by decide, by decide⟩

theorem witness_EveryStepKeepsTheInvariant :
    (sending .query 3 EnvTurn.quiet).Inv ∧ ∃ t, step (sending .query 3 EnvTurn.quiet) = .next t :=
  ⟨witness_inv, _, rfl⟩

/-- Both of its cases: a configured transport, and a refused call. -/
theorem witness_StepsAreSafeOnAConfiguredTransport :
    (sending .query 3 EnvTurn.quiet).Inv ∧ (sending .query 3 EnvTurn.quiet).Configured ∧
    ({ sending .query 3 EnvTurn.quiet with config := none } : State).Inv ∧
    step { sending .query 3 EnvTurn.quiet with config := none } = .refused .transportUnconfigured :=
  ⟨witness_inv, by decide,
    ⟨by decide, by decide, by decide, by decide, by decide, by decide, by decide⟩, rfl⟩

theorem witness_CallerIssuesOnlyTheFourOperations :
    (sending .query 3 EnvTurn.quiet).bench = none ∧ ∃ t, run 2 (sending .query 3 EnvTurn.quiet) = .next t :=
  ⟨rfl, _, rfl⟩

/-- PhaseMovesOnlyAlongItsArrows, in each phase; also TransmitLogOnlyGrows and CommandTableNeverChanges. -/
theorem witness_PhaseMovesOnlyAlongItsArrows :
    (let s := { ready tId with port := [0x300000000#34] };
      s.NoReset ∧ s.phase = .idle ∧ ∃ t, step s = .next t) ∧
    (let s := sending .query 7 EnvTurn.quiet;
      s.NoReset ∧ s.phase = .sending ∧ ∃ t, step s = .next t) ∧
    (let s := waiting (counting 9) EnvTurn.quiet;
      s.NoReset ∧ s.phase = .waitingForResponse ∧ ∃ t, step s = .next t) ∧
    (let s := { ready tId with phase := .decoding };
      s.NoReset ∧ s.phase = .decoding ∧ ∃ t, step s = .next t) :=
  ⟨⟨by decide, rfl, _, rfl⟩, ⟨by decide, rfl, _, rfl⟩, ⟨by decide, rfl, _, rfl⟩, ⟨by decide, rfl, _, rfl⟩⟩

theorem witness_CommandTableNeverChanges : ∃ t, run 2 (sending .query 3 EnvTurn.quiet) = .next t := ⟨_, rfl⟩

theorem witness_ResultIsWrittenOnlyByDecodeStep :
    let s := { ready tId with phase := .decoding, rxbuf := resp200 }
    s.NoReset ∧ ∃ t, step s = .next t ∧ t.result ≠ s.result :=
  ⟨by decide, _, rfl, by decide⟩

end Sys2Proof.Tests
end

section
/-! Scope: the closed set of the caller's operations (O52), with the rules it needs: what the end of sending can
answer, what the block's own steps leave alone, and induction over a run. -/

namespace Sys2Proof.Machine

/-- The end of sending goes on for QUERY, ends ENCODE, and has no meaning for any other CUROP (R164). -/
theorem endOfSending_cases (s : State) :
    (s.curop = .query ∧ endOfSending s = .next { s with phase := .waitingForResponse }) ∨
    (s.curop = .encode ∧ endOfSending s = .next { s with status := .ok, phase := .idle }) ∨
    (s.curop ≠ .query ∧ s.curop ≠ .encode ∧ endOfSending s = .fault .sendingWithoutOperation) := by
  cases h : s.curop with
  | query => exact .inl ⟨rfl, by simp [endOfSending, h]⟩
  | encode => exact .inr (.inl ⟨rfl, by simp [endOfSending, h]⟩)
  | init => exact .inr (.inr ⟨by decide, by decide, by simp [endOfSending, h]⟩)
  | decode => exact .inr (.inr ⟨by decide, by decide, by simp [endOfSending, h]⟩)

/-- Sending touches neither the Command Table nor the words waiting at the port or on the bench. -/
theorem sendStep_frame {o : WriteOutcome} {s s' : State} (h : sendStep o s = .next s') :
    s'.table = s.table ∧ s'.port = s.port ∧ s'.bench = s.bench := by
  by_cases hlt : s.txcnt.val < 8
  · rcases sendStep_cases (o := o) hlt with ⟨-, he⟩ | ⟨-, -, he⟩ | ⟨-, -, he⟩ | ⟨-, -, he⟩ <;> rw [he] at h
    · cases h
    all_goals
      cases h
      exact ⟨rfl, rfl, rfl⟩
  · rw [sendStep_done hlt] at h
    rcases endOfSending_cases s with ⟨-, he⟩ | ⟨-, he⟩ | ⟨-, -, he⟩ <;> rw [he] at h
    · cases h
      exact ⟨rfl, rfl, rfl⟩
    · cases h
      exact ⟨rfl, rfl, rfl⟩
    · cases h

/-- Waiting and reading touch neither the Command Table nor the words waiting at the port or on the bench. -/
theorem waitStep_frame {o : ReadOutcome} {s s' : State} (h : waitStep o s = .next s') :
    s'.table = s.table ∧ s'.port = s.port ∧ s'.bench = s.bench := by
  rcases waitStep_cases o s with ⟨-, he⟩ | ⟨-, -, he⟩ | ⟨-, -, r, rest, -, he⟩ | ⟨-, -, k, v, -, he⟩ <;> rw [he] at h
  · cases h
  all_goals
    cases h
    exact ⟨rfl, rfl, rfl⟩

/-- The step in `Idle` leaves no word on the bench: it takes the one that was there and puts none (log entry 13). -/
theorem idleStep_clears_bench {s s' : State} (h : idleStep s = .next s') : s'.bench = none := by
  rcases idleStep_cases s with ⟨hb, -, he⟩ | ⟨w, rest, hb, -, he⟩ | ⟨f, i, -, -, he⟩ | ⟨f, -, -, he⟩ <;>
    rw [he] at h
  · cases h
    exact hb
  · exact (exec_keeps_bench h).trans hb
  · exact exec_keeps_bench h
  · cases h
    rfl

/-- No step puts a word on an empty bench, whatever the environment's turn, the reset event included. -/
theorem step_keeps_bench_empty {s s' : State} (hb : s.bench = none) (h : step s = .next s') : s'.bench = none := by
  rcases step_cases s with ⟨-, he⟩ | ⟨-, -, he⟩ | ⟨-, -, he⟩ | ⟨-, -, he⟩ | ⟨-, -, he⟩ <;> rw [he] at h
  · cases h
    exact hb
  · exact idleStep_clears_bench h
  · obtain ⟨-, -, hbench⟩ := sendStep_frame h
    exact hbench.trans hb
  · obtain ⟨-, -, hbench⟩ := waitStep_frame h
    exact hbench.trans hb
  · cases h
    exact hb

/-- What every step keeps, every run keeps. -/
theorem run_keeps {P : State → Prop} (hstep : ∀ {s s' : State}, P s → step s = .next s' → P s')
    {n : Nat} {s t : State} (hs : P s) (h : run n s = .next t) : P t := by
  induction n generalizing s with
  | zero =>
    cases h
    exact hs
  | succ n ih =>
    obtain ⟨u, hu, hrun⟩ := run_succ_inv h
    exact ih (hstep hs hu) hrun

/-- `decodeCommand_cases` through the decoder of all words: a command word is one of the four operations (R81). -/
theorem decode_command_cases (w : CommandWord) :
    (∃ b, decode (.cw w) = .instr (.opInitialize b)) ∨ (∃ p a, decode (.cw w) = .instr (.opQuery p a)) ∨
      (∃ p a, decode (.cw w) = .instr (.opEncode p a)) ∨ decode (.cw w) = .instr .opDecode := by
  simpa only [decode, Decoded.instr.injEq] using decodeCommand_cases w

/-- Settles O52: the decoder's four cases, the reset state's empty bench, and an empty bench kept by every step and so
by every run. -/
theorem callerIssuesOnlyTheFourOperations : Obligations.CallerIssuesOnlyTheFourOperations :=
  ⟨decode_command_cases, rfl, fun _ _ _ hb h => run_keeps (P := fun s => s.bench = none) step_keeps_bench_empty hb h⟩

end Sys2Proof.Machine
end

section
/-! Scope: the invariant of every run (O46). A step that ends in `Idle` has little left to show (`State.Inv.of_idle`);
what the invariant does not speak of may change freely (`State.Inv.frame`); each of the block's own steps keeps it. -/

namespace Sys2Proof.Machine

/-- In `Idle` the invariant asks nothing of CUROP, TXCNT, TXBUF and T.TXLOG. -/
theorem State.Inv.of_idle {s : State} (hp : s.phase = .idle) (ht : s.table.wf = true)
    (hv : s.resultValid = true → s.status = .ok ∧ s.result = decodeValue Config.floatWidth s.rxbuf)
    (hs : s.status ≠ .timeout ∧ s.status ≠ .shortRead) : s.Inv where
  table_wf := ht
  valid_result h := ⟨hp, hv h⟩
  sending_curop h := by simp [hp] at h
  receiving_curop h := by simp [hp] at h
  sent_bytes h := by simp [hp] at h
  sent_frame h := by simp [hp] at h
  no_reserved_status := hs

/-- The invariant speaks of none of T.RXFIFO, T.CONFIG, the port and the model's own fields. -/
theorem State.Inv.frame {s : State} (h : s.Inv) {rx : List Byte} {c : Option SerialConfig} {ws : List CommandWord}
    {f : Option FormatWord} {ts : List EnvTurn} {t : Option Template} {m : Option Frame} {k : Nat} :
    ({ s with
        rxfifo := rx, config := c, port := ws, bench := f, env := ts, lookupOut := t, wireOut := m
        freeCount := k } : State).Inv :=
  ⟨h.table_wf, h.valid_result, h.sending_curop, h.receiving_curop, h.sent_bytes, h.sent_frame,
    h.no_reserved_status⟩

/-- No result is valid while the block is busy (R30). -/
theorem State.Inv.busy_not_valid {s : State} (h : s.Inv) (hp : s.phase ≠ .idle) : s.resultValid = false := by
  refine Bool.eq_false_iff.2 fun hv => ?_
  obtain ⟨hidle, -⟩ := h.valid_result hv
  exact hp hidle

/-- The other agents' moves keep the invariant. -/
theorem absorb_keeps_inv {s : State} (t : EnvTurn) (h : s.Inv) : (absorb t s).Inv := h.frame

/-- Error entry always ends in a state of the invariant (R184): no result, and a code that is not reserved. -/
theorem raiseError_inv (e : ErrorCode) {s : State} (ht : s.table.wf = true) : (raiseError e s).Inv :=
  .of_idle rfl ht nofun (by cases e <;> exact ⟨nofun, nofun⟩)

/-- So does the reset event (R200). -/
theorem resetEvent_inv {s : State} (ht : s.table.wf = true) : (resetEvent s).Inv :=
  .of_idle rfl ht nofun ⟨nofun, nofun⟩

/-- So does the decode step, which makes RESULT the value of RXBUF (R147). -/
theorem decodeStep_inv {s : State} (ht : s.table.wf = true) : (decodeStep s).Inv :=
  .of_idle rfl ht (fun _ => ⟨rfl, rfl⟩) ⟨nofun, nofun⟩

/-- The accept step of a valid QUERY or ENCODE: nothing of the new frame is out yet (R122, R161). -/
theorem assemble_latchOperands_inv {op : OpCode} (hop : op = .query ∨ op = .encode) (p a : Byte) (m : Frame)
    {s : State} (h : s.Inv) : (assemble m (latchOperands op p a s)).Inv where
  table_wf := h.table_wf
  valid_result := nofun
  sending_curop _ := hop
  receiving_curop h := by simp at h
  sent_bytes _ := List.nil_suffix
  sent_frame h := by simp at h
  no_reserved_status := h.no_reserved_status

/-- Every instruction, taken in `Idle`, keeps the invariant. -/
theorem exec_keeps_inv {i : Instr} {s t : State} (h : s.Inv) (hp : s.phase = .idle) (he : exec i s = .next t) :
    t.Inv := by
  rcases exec_cases i s with ⟨b, -, hx⟩ | ⟨p, a, op, hop, -, hx⟩ | ⟨p, a, op, -, -, hx⟩ | ⟨-, hx⟩ | ⟨m, -, hx⟩ |
    ⟨r, -, hx⟩ | ⟨o, hx⟩ | ⟨p, -, -, hx⟩ <;> rw [hx] at he <;> cases he
  · refine .of_idle hp h.table_wf (fun hv => ?_) ⟨nofun, nofun⟩
    obtain ⟨-, -, hr⟩ := h.valid_result hv
    exact ⟨rfl, hr⟩
  · exact assemble_latchOperands_inv (hop.imp (·.2) (·.2)) p a _ h
  · exact raiseError_inv _ h.table_wf
  · exact
      { h with
        valid_result := nofun
        sending_curop := nofun
        receiving_curop := fun _ => .inr rfl
        sent_bytes := nofun
        sent_frame := fun _ hq => nomatch hq }
  · exact h.frame
  · exact h.frame
  · exact h.frame
  · exact raiseError_inv _ h.table_wf

/-- The block's step in `Idle`: it rests, runs a word, or rejects one (R91, R160). -/
theorem idleStep_keeps_inv {s t : State} (h : s.Inv) (hp : s.phase = .idle) (he : idleStep s = .next t) : t.Inv := by
  rcases idleStep_cases s with ⟨-, -, hx⟩ | ⟨w, rest, -, -, hx⟩ | ⟨f, i, -, -, hx⟩ | ⟨f, -, -, hx⟩ <;> rw [hx] at he
  · cases he
    exact h
  · exact exec_keeps_inv (s := { s with port := rest }) h.frame hp he
  · exact exec_keeps_inv (s := { s with bench := none }) h.frame hp he
  · cases he
    exact raiseError_inv _ h.table_wf

/-- If the first `n` elements stand last in a log, then with the next one appended the first `n + 1` do. -/
theorem take_succ_suffix_concat {α : Type} {l log : List α} {n : Nat} (hn : n < l.length) (h : l.take n <:+ log) :
    l.take (n + 1) <:+ log ++ [l[n]] := by
  obtain ⟨pre, rfl⟩ := h
  exact ⟨pre, by rw [List.take_succ_eq_append_getElem hn, List.append_assoc]⟩

/-- The block's step in `Sending`: one more byte of the frame out, an error, or the end of sending (R124, R127,
R164). -/
theorem sendStep_keeps_inv {o : WriteOutcome} {s t : State} (h : s.Inv) (hp : s.phase = .sending)
    (he : sendStep o s = .next t) : t.Inv := by
  have hv : s.resultValid = false := h.busy_not_valid (by simp [hp])
  have hsent := h.sent_bytes hp
  by_cases hlt : s.txcnt.val < 8
  · rcases sendStep_cases (o := o) hlt with ⟨-, hx⟩ | ⟨-, -, hx⟩ | ⟨-, -, hx⟩ | ⟨-, -, hx⟩ <;>
      rw [hx] at he <;> cases he
    · exact
        { h with
          sent_bytes := fun _ => take_succ_suffix_concat (by simpa using hlt) hsent
          sent_frame := by simp [hp] }
    · exact raiseError_inv _ h.table_wf
    · exact raiseError_inv _ h.table_wf
  · rw [sendStep_done hlt] at he
    rcases endOfSending_cases s with ⟨hq, hx⟩ | ⟨-, hx⟩ | ⟨-, -, hx⟩ <;> rw [hx] at he <;> cases he
    · exact
        { h with
          valid_result := by simp [hv]
          sending_curop := nofun
          receiving_curop := fun _ => .inl hq
          sent_bytes := nofun
          sent_frame := fun _ _ => by rwa [List.take_of_length_le (by simpa using hlt)] at hsent }
    · exact .of_idle rfl h.table_wf (by simp [hv]) ⟨nofun, nofun⟩

/-- The block's step in `WaitingForResponse`: it polls, reads the response, or ends with an error (R144 to R149). -/
theorem waitStep_keeps_inv {o : ReadOutcome} {s t : State} (h : s.Inv) (hp : s.phase = .waitingForResponse)
    (he : waitStep o s = .next t) : t.Inv := by
  have hv : s.resultValid = false := h.busy_not_valid (by simp [hp])
  rcases waitStep_cases o s with ⟨-, hx⟩ | ⟨-, -, hx⟩ | ⟨-, -, r, rest, -, hx⟩ | ⟨-, -, k, v, -, hx⟩ <;>
    rw [hx] at he <;> cases he
  · exact h
  · exact
      { h with
        valid_result := by simp [hv]
        sending_curop := nofun
        receiving_curop := fun _ => h.receiving_curop (.inl hp)
        sent_bytes := nofun
        sent_frame := fun _ => h.sent_frame (.inl hp) }
  · exact raiseError_inv _ h.table_wf

/-- Settles O46: the environment's turn keeps the invariant, and then the reset event or the block's step of each phase
does. -/
theorem everyStepKeepsTheInvariant : Obligations.EveryStepKeepsTheInvariant := by
  intro s t h he
  have ha : (absorb (nextTurn s) s).Inv := absorb_keeps_inv _ h
  rcases step_cases s with ⟨-, hx⟩ | ⟨-, hp, hx⟩ | ⟨-, hp, hx⟩ | ⟨-, hp, hx⟩ | ⟨-, -, hx⟩ <;> rw [hx] at he
  · cases he
    exact resetEvent_inv ha.table_wf
  · exact idleStep_keeps_inv ha hp he
  · exact sendStep_keeps_inv ha hp he
  · exact waitStep_keeps_inv ha hp he
  · cases he
    exact decodeStep_inv ha.table_wf

end Sys2Proof.Machine
end

section
/-! Scope: what the block's steps leave alone (O49, O51), the format word RESP (O11), the block at rest (O20) and the
reset state (O35). RESULT is written by the decode step alone and T.TXLOG by the send step alone: one frame lemma per
step function says so. -/

namespace Sys2Proof.Machine

/-! ## The decoded value -/

/-- The low 32 bits of the response word are the last four bytes received (R138, R141). -/
theorem decodeValue32_eq_lastFour (r : Payload) : decodeValue32 r = lastFour r := by
  apply BitVec.eq_of_toNat_eq
  simp only [decodeValue32, responseWord, responseNumber, lastFour, extract_toNat, concat9_toNat, append_toNat]
  omega

/-! ## Frames -/

/-- No instruction writes RESULT or T.TXLOG. -/
theorem exec_keeps_result_txlog {i : Instr} {s t : State} (h : exec i s = .next t) :
    t.result = s.result ∧ t.txlog = s.txlog := by
  rcases exec_cases i s with ⟨b, -, he⟩ | ⟨p, a, op, -, -, he⟩ | ⟨p, a, op, -, -, he⟩ | ⟨-, he⟩ | ⟨m, -, he⟩ |
    ⟨r, -, he⟩ | ⟨o, he⟩ | ⟨p, -, -, he⟩ <;>
  · rw [he] at h
    cases h
    exact ⟨rfl, rfl⟩

/-- Nor does any other step in `Idle`. -/
theorem idleStep_keeps_result_txlog {s t : State} (h : idleStep s = .next t) :
    t.result = s.result ∧ t.txlog = s.txlog := by
  rcases idleStep_cases s with ⟨-, -, he⟩ | ⟨w, rest, -, -, he⟩ | ⟨f, i, -, -, he⟩ | ⟨f, -, -, he⟩ <;> rw [he] at h
  · cases h
    exact ⟨rfl, rfl⟩
  · exact exec_keeps_result_txlog (s := { s with port := rest }) h
  · exact exec_keeps_result_txlog (s := { s with bench := none }) h
  · cases h
    exact ⟨rfl, rfl⟩

/-- Waiting and reading write neither. -/
theorem waitStep_keeps_result_txlog {o : ReadOutcome} {s t : State} (h : waitStep o s = .next t) :
    t.result = s.result ∧ t.txlog = s.txlog := by
  rcases waitStep_cases o s with ⟨-, he⟩ | ⟨-, -, he⟩ | ⟨-, -, r, rest, -, he⟩ | ⟨-, -, k, v, -, he⟩ <;> rw [he] at h
  · cases h
  all_goals
    cases h
    exact ⟨rfl, rfl⟩

/-- Sending leaves RESULT alone and appends at most one byte to T.TXLOG (R124, R127). -/
theorem sendStep_keeps_result_extends_txlog {o : WriteOutcome} {s t : State} (h : sendStep o s = .next t) :
    t.result = s.result ∧ (t.txlog = s.txlog ∨ ∃ b, t.txlog = s.txlog ++ [b]) := by
  by_cases hlt : s.txcnt.val < 8
  · rcases sendStep_cases (o := o) hlt with ⟨-, he⟩ | ⟨-, -, he⟩ | ⟨-, -, he⟩ | ⟨-, -, he⟩ <;>
      rw [he] at h <;> cases h
    · exact ⟨rfl, .inr ⟨_, rfl⟩⟩
    · exact ⟨rfl, .inr ⟨_, rfl⟩⟩
    · exact ⟨rfl, .inl rfl⟩
  · rw [sendStep_done hlt] at h
    rcases endOfSending_cases s with ⟨-, he⟩ | ⟨-, he⟩ | ⟨-, -, he⟩ <;> rw [he] at h <;> cases h
    · exact ⟨rfl, .inl rfl⟩
    · exact ⟨rfl, .inl rfl⟩

/-- What every step, the reset event included, can do to T.TXLOG. -/
theorem step_txlog_cases {s t : State} (h : step s = .next t) : t.txlog = s.txlog ∨ ∃ b, t.txlog = s.txlog ++ [b] := by
  rcases step_cases s with ⟨-, he⟩ | ⟨-, -, he⟩ | ⟨-, -, he⟩ | ⟨-, -, he⟩ | ⟨-, -, he⟩ <;> rw [he] at h
  · cases h
    exact .inl rfl
  · obtain ⟨-, hlog⟩ := idleStep_keeps_result_txlog h
    exact .inl hlog
  · obtain ⟨-, hlog⟩ := sendStep_keeps_result_extends_txlog h
    exact hlog
  · obtain ⟨-, hlog⟩ := waitStep_keeps_result_txlog h
    exact .inl hlog
  · cases h
    exact .inl rfl

/-! ## One step in each phase -/

/-- A step without the reset event, in `Idle`. -/
theorem step_idle {s : State} (hn : s.NoReset) (hp : s.phase = .idle) :
    step s = idleStep (absorb (nextTurn s) s) := by
  simp [step, hn, blockStep, hp]

/-- A step without the reset event, in `Sending`. -/
theorem step_sending {s : State} (hn : s.NoReset) (hp : s.phase = .sending) :
    step s = sendStep (nextTurn s).write (absorb (nextTurn s) s) := by
  simp [step, hn, blockStep, hp]

/-- A step without the reset event, in `WaitingForResponse`. -/
theorem step_waiting {s : State} (hn : s.NoReset) (hp : s.phase = .waitingForResponse) :
    step s = waitStep (nextTurn s).read (absorb (nextTurn s) s) := by
  simp [step, hn, blockStep, hp]

/-- A step without the reset event, in `Decoding`. -/
theorem step_decoding {s : State} (hn : s.NoReset) (hp : s.phase = .decoding) :
    step s = .next (decodeStep (absorb (nextTurn s) s)) := by
  simp [step, hn, blockStep, hp]

/-- With no word on the bench or at the port the idle block rests (log entry 5). -/
theorem idleStep_rests {s : State} (hb : s.bench = none) (hport : s.port = []) : idleStep s = .next s := by
  simp [idleStep, fetch_none hb hport]

/-- With a command word first at the port, and none on the bench, the idle block takes and runs it (R160). -/
theorem idleStep_command {s : State} {w : CommandWord} {rest : List CommandWord} (hb : s.bench = none)
    (hport : s.port = w :: rest) : idleStep s = exec (decodeCommand w) { s with port := rest } := by
  simp [idleStep, fetch_command hb hport, decode, hb]

/-! ## The obligations -/

/-- Settles O49: the log stays or gets one byte at its end. -/
theorem transmitLogOnlyGrows : Obligations.TransmitLogOnlyGrows := by
  refine ⟨rfl, fun s t h => ?_⟩
  rcases step_txlog_cases h with hlog | ⟨b, hlog⟩ <;> rw [hlog]
  · exact ⟨List.prefix_rfl, Nat.le_succ _⟩
  · exact ⟨List.prefix_append _ _, by simp⟩

/-- Settles O51: in every phase but `Decoding` the frame lemmas leave RESULT as it was; the decode step writes it. -/
theorem resultIsWrittenOnlyByDecodeStep : Obligations.ResultIsWrittenOnlyByDecodeStep := by
  intro s t hn h hne
  rcases step_cases s with ⟨hr, -⟩ | ⟨-, -, he⟩ | ⟨-, -, he⟩ | ⟨-, -, he⟩ | ⟨-, hp, he⟩
  · rw [hn] at hr
    cases hr
  · obtain ⟨hres, -⟩ := idleStep_keeps_result_txlog (he ▸ h)
    exact absurd hres hne
  · obtain ⟨hres, -⟩ := sendStep_keeps_result_extends_txlog (he ▸ h)
    exact absurd hres hne
  · obtain ⟨hres, -⟩ := waitStep_keeps_result_txlog (he ▸ h)
    exact absurd hres hne
  · rw [he] at h
    cases h
    exact ⟨hp, rfl, decodeValue32_eq_lastFour s.rxbuf⟩

/-- A payload's bytes in order, the first received first. -/
theorem payload_toList (r : Payload) : r.toList = [r[0], r[1], r[2], r[3], r[4], r[5], r[6], r[7], r[8]] := by
  refine List.ext_getElem (by simp) fun k hk _ => ?_
  have hk9 : k < 9 := by simpa using hk
  interval_cases k <;> simp

/-- Settles O11: RESP appends its payload to T.RXFIFO, byte by byte `payload_toList`. -/
theorem responsePayloadJoinsReceiveBuffer : Obligations.ResponsePayloadJoinsReceiveBuffer := fun r s => by
  rw [← payload_toList]
  rfl

/-- Settles O20: with the bench and the port empty after the environment's turn, the idle step rests. -/
theorem idleBlockWithoutCommandRests : Obligations.IdleBlockWithoutCommandRests := by
  intro s hn hp hb hw
  rw [step_idle hn hp, idleStep_rests (s := absorb (nextTurn s) s) hb hw, absorb, hw]

/-- Settles O35: each value is the one `State.reset` names. -/
theorem resetStateHoldsSpecValues : Obligations.ResetStateHoldsSpecValues := ⟨rfl, rfl, rfl, rfl, rfl, rfl⟩

end Sys2Proof.Machine
end

section
/-! Scope: a whole QUERY, step by step (O43). One lemma per step of the block in a turn without failure, an induction
over the send steps, and from them the end state of the twelve turns, in which every transient register holds a value
of the QUERY's own. -/

namespace Sys2Proof.Machine

/-! ## What the environment brings in some turns -/

@[simp] theorem arrivals_nil : arrivals [] = [] := rfl
@[simp] theorem offers_nil : offers [] = [] := rfl

@[simp] theorem arrivals_cons (t : EnvTurn) (ts : List EnvTurn) : arrivals (t :: ts) = t.arrive ++ arrivals ts := rfl
@[simp] theorem offers_cons (t : EnvTurn) (ts : List EnvTurn) : offers (t :: ts) = t.offer ++ offers ts := rfl

@[simp] theorem arrivals_append (ts us : List EnvTurn) : arrivals (ts ++ us) = arrivals ts ++ arrivals us := by
  simp [arrivals]

@[simp] theorem offers_append (ts us : List EnvTurn) : offers (ts ++ us) = offers ts ++ offers us := by
  simp [offers]

theorem nextTurn_eq {s : State} {t : EnvTurn} {ts : List EnvTurn} (h : s.env = t :: ts) : nextTurn s = t := by
  simp [nextTurn, h]

/-! ## The fields of a command word -/

/-- `CW[33:32]` (R81). -/
@[simp] theorem commandWord_op (op : BitVec 2) (x : BitVec 16) (hi lo : Byte) :
    (commandWord op x hi lo).extractLsb' 32 2 = op := by
  apply BitVec.eq_of_toNat_eq
  rw [extract_toNat, commandWord_toNat]
  omega

/-- `CW[15:8]` (R81). -/
@[simp] theorem commandWord_hi (op : BitVec 2) (x : BitVec 16) (hi lo : Byte) :
    (commandWord op x hi lo).extractLsb' 8 8 = hi := by
  apply BitVec.eq_of_toNat_eq
  rw [extract_toNat, commandWord_toNat]
  omega

/-- `CW[7:0]` (R81). -/
@[simp] theorem commandWord_lo (op : BitVec 2) (x : BitVec 16) (hi lo : Byte) :
    (commandWord op x hi lo).extractLsb' 0 8 = lo := by
  apply BitVec.eq_of_toNat_eq
  rw [extract_toNat, commandWord_toNat]
  omega

/-- A QUERY's word runs the accept step of R161 with its operands, whatever its reserved bits hold (R81, R90). -/
theorem exec_queryWord (x : BitVec 16) (p a : Byte) (s : State) :
    exec (decodeCommand (commandWord 1#2 x p a)) s = acceptAddressed .query p a s := by
  rw [show decodeCommand (commandWord 1#2 x p a) = .opQuery p a by simp [decodeCommand]]
  rfl

/-! ## The steps of an operation, in turns without failure -/

/-- The accept step of a valid QUERY or ENCODE (R161): the frame is assembled, whatever the transient registers held. -/
theorem step_accepts {s : State} {t : EnvTurn} {later : List EnvTurn} {w : CommandWord} {op : OpCode} {p a : Byte}
    {rest : List CommandWord} (henv : s.env = t :: later) (hn : t.reset = false) (hp : s.phase = .idle)
    (hb : s.bench = none) (hport : s.port = w :: rest)
    (hw : ∀ u, exec (decodeCommand w) u = acceptAddressed op p a u) (hv : validParam p = true) :
    step s = .next
      { absorb t s with
        port := rest ++ t.offer, curop := op, param := p, saddr := a, resultValid := false
        txbuf := frameBytes s.table p.toNat a, txcnt := 0, phase := .sending } := by
  obtain rfl : nextTurn s = t := nextTurn_eq henv
  have hword : (absorb (nextTurn s) s).port = w :: (rest ++ (nextTurn s).offer) := by simp [hport]
  rw [step_idle hn hp, idleStep_command (s := absorb (nextTurn s) s) hb hword, hw, acceptAddressed_valid _ _ _ hv,
    frameOf_templateAt]
  rfl

/-- A send step (R124). -/
theorem step_sendsByte {s : State} {t : EnvTurn} {later : List EnvTurn} (henv : s.env = t :: later) (ht : t.NoFail)
    (hp : s.phase = .sending) (hc : s.Configured) (hlt : s.txcnt.val < 8) :
    step s = .next
      { absorb t s with txlog := s.txlog ++ [s.txbuf[s.txcnt.val]], txcnt := ⟨s.txcnt.val + 1, by omega⟩ } := by
  obtain rfl : nextTurn s = t := nextTurn_eq henv
  obtain ⟨hn, hw, -⟩ := ht
  rw [step_sending hn hp, hw]
  rcases sendStep_cases (o := .accepted) (s := absorb (nextTurn s) s) hlt with
    ⟨hu, -⟩ | ⟨-, -, he⟩ | ⟨-, hf, -⟩ | ⟨-, hf, -⟩
  · exact absurd hu hc
  · exact he
  · cases hf
  · cases hf

/-- The send steps of `n` turns together: `n` bytes of TXBUF are out, in order (R124). -/
theorem run_sends {n : Nat} {ts later : List EnvTurn} {s : State} (henv : s.env = ts ++ later) (hlen : ts.length = n)
    (hok : ∀ t ∈ ts, t.NoFail) (hp : s.phase = .sending) (hc : s.Configured) (hn : s.txcnt.val + n ≤ 8) :
    run n s = .next
      { s with
        txlog := s.txlog ++ (s.txbuf.toList.drop s.txcnt.val).take n, txcnt := ⟨s.txcnt.val + n, by omega⟩
        rxfifo := s.rxfifo ++ arrivals ts, port := s.port ++ offers ts, env := later } := by
  induction ts generalizing s n with
  | nil =>
    subst hlen
    obtain rfl : s.env = later := henv
    simp
  | cons t ts ih =>
    subst hlen
    rw [List.length_cons] at hn
    have hlt : s.txcnt.val < 8 := by omega
    have hdrop : s.txbuf.toList.drop s.txcnt.val =
        s.txbuf[s.txcnt.val] :: s.txbuf.toList.drop (s.txcnt.val + 1) := by
      rw [List.drop_eq_getElem_cons (by simpa using hlt), Vector.getElem_toList]
    obtain ⟨ht, hts⟩ := List.forall_mem_cons.1 hok
    refine (run_succ (step_sendsByte henv ht hp hc hlt)).trans ?_
    rw [ih]
    · simp [hdrop, Nat.add_assoc, Nat.add_comm 1]
    · simp [henv]
    · rfl
    · exact hts
    · exact hp
    · exact hc
    · simp
      omega

/-- The end of sending of a QUERY (R164). -/
theorem step_endsSending {s : State} {t : EnvTurn} {later : List EnvTurn} (henv : s.env = t :: later)
    (hn : t.reset = false) (hp : s.phase = .sending) (hcnt : s.txcnt = 8) (hq : s.curop = .query) :
    step s = .next { absorb t s with phase := .waitingForResponse } := by
  obtain rfl : nextTurn s = t := nextTurn_eq henv
  rw [step_sending hn hp, sendStep_done (by simp [hcnt])]
  simp [endOfSending, hq]

/-- The read step with a whole response buffered (R145, R146). -/
theorem step_readsResponse {s : State} {t : EnvTurn} {later : List EnvTurn} {r : Payload} {surplus : List Byte}
    (henv : s.env = t :: later) (ht : t.NoFail) (hp : s.phase = .waitingForResponse) (hc : s.Configured)
    (hrx : s.rxfifo ++ t.arrive = r.toList ++ surplus) :
    step s = .next { absorb t s with rxbuf := r, rxfifo := [], phase := .decoding } := by
  obtain rfl : nextTurn s = t := nextTurn_eq henv
  obtain ⟨hn, -, hr⟩ := ht
  rw [step_waiting hn hp, hr]
  exact waitStep_read (s := absorb (nextTurn s) s) hc hrx

/-- The decode step, with the value byte by byte (R141, R147). -/
theorem step_decodes {s : State} {t : EnvTurn} {later : List EnvTurn} (henv : s.env = t :: later)
    (hn : t.reset = false) (hp : s.phase = .decoding) :
    step s = .next
      { absorb t s with result := lastFour s.rxbuf, resultValid := true, status := .ok, phase := .idle } := by
  obtain rfl : nextTurn s = t := nextTurn_eq henv
  rw [step_decoding hn hp, ← decodeValue32_eq_lastFour]
  rfl

/-! ## Whole operations -/

/-- Accept and eight send steps of a QUERY or ENCODE: the whole frame is out (R66, R122, R124). -/
theorem run_sendsFrame {s : State} {w : CommandWord} {op : OpCode} {p a : Byte} {rest : List CommandWord}
    {ts later : List EnvTurn} (henv : s.env = ts ++ later) (hlen : ts.length = 9) (hok : ∀ t ∈ ts, t.NoFail)
    (hp : s.phase = .idle) (hb : s.bench = none) (hc : s.Configured) (hport : s.port = w :: rest)
    (hw : ∀ u, exec (decodeCommand w) u = acceptAddressed op p a u) (hv : validParam p = true) :
    run 9 s = .next
      { s with
        phase := .sending, curop := op, param := p, saddr := a, txcnt := 8
        txbuf := frameBytes s.table p.toNat a, resultValid := false
        txlog := s.txlog ++ encodeFrame s.table p a, rxfifo := s.rxfifo ++ arrivals ts
        port := rest ++ offers ts, env := later } := by
  obtain ⟨t, us, rfl⟩ := List.exists_cons_of_length_eq_add_one hlen
  obtain ⟨⟨hn, -⟩, hus⟩ := List.forall_mem_cons.1 hok
  refine (run_succ (step_accepts henv hn hp hb hport hw hv)).trans ?_
  rw [run_sends (n := 8) (ts := us) (later := later)]
  · simp [frameBytes, encodeFrame]
  · simp [henv]
  · exact Nat.succ.inj hlen
  · exact hus
  · rfl
  · exact hc
  · simp

/-- A list of `n + 3` elements, its last three apart. -/
theorem exists_eq_append_three {α : Type} {l : List α} {n : Nat} (h : l.length = n + 3) :
    ∃ us u v w, l = us ++ [u, v, w] ∧ us.length = n := by
  obtain ⟨u, v, w, htail⟩ := List.length_eq_three.1 (show (l.drop n).length = 3 by simp [h])
  exact ⟨l.take n, u, v, w, by rw [← htail, List.take_append_drop], by simp [h]⟩

/-- The end state of a QUERY over twelve turns: accept, eight bytes, end of sending, read, decode (R166). -/
theorem run_query {s : State} {x : BitVec 16} {p a : Byte} {rest : List CommandWord} {ts later : List EnvTurn}
    {r : Payload} {surplus : List Byte} (hp : s.phase = .idle) (hb : s.bench = none) (hc : s.Configured)
    (hv : validParam p = true) (hport : s.port = commandWord 1#2 x p a :: rest) (henv : s.env = ts ++ later)
    (hlen : ts.length = 12) (hok : ∀ t ∈ ts, t.NoFail)
    (hrx : s.rxfifo ++ arrivals (ts.take 11) = r.toList ++ surplus) :
    run 12 s = .next
      { s with
        phase := .idle, curop := .query, param := p, saddr := a, txcnt := 8
        txbuf := frameBytes s.table p.toNat a, rxbuf := r
        result := lastFour r, resultValid := true, status := .ok
        txlog := s.txlog ++ encodeFrame s.table p a, rxfifo := arrivals (ts.drop 11)
        port := rest ++ offers ts, env := later } := by
  obtain ⟨us, t₁, t₂, t₃, rfl, hus⟩ := exists_eq_append_three hlen
  simp only [List.forall_mem_append, List.forall_mem_cons] at hok
  obtain ⟨hsend, ⟨hn₁, -⟩, ht₂, ⟨hn₃, -⟩, -⟩ := hok
  have hread : (us ++ [t₁, t₂, t₃]).take 11 = us ++ [t₁, t₂] := by simp [List.take_append, hus]
  have hlast : (us ++ [t₁, t₂, t₃]).drop 11 = [t₃] := by simp [List.drop_append, hus]
  have hsent := run_sendsFrame (henv.trans (List.append_assoc ..)) hus hsend hp hb hc hport (exec_queryWord x p a) hv
  refine (run_add (n := 3) hsent).trans ?_
  refine (run_succ (step_endsSending rfl hn₁ rfl rfl rfl)).trans ?_
  refine (run_succ (step_readsResponse (r := r) (surplus := surplus) rfl ht₂ rfl (by exact hc) ?_)).trans ?_
  · simpa [hread] using hrx
  refine (run_succ (step_decodes rfl hn₃ rfl)).trans ?_
  simp [hlast]

/-- Settles O43: the two runs have the end state of `run_query`, which reads none of the registers they differ in. -/
theorem transientRegistersCarryNothing : Obligations.TransientRegistersCarryNothing := by
  intro s c p₀ a₀ n tx rx x p a rest ts later r surplus hp hb hc hv hport henv hlen hok hrx
  exact (run_query (s := withTransients s c p₀ a₀ n tx rx) hp hb hc hv hport henv hlen hok hrx).trans
    (run_query hp hb hc hv hport henv hlen hok hrx).symm

end Sys2Proof.Machine
end

section
/-! Scope: the Command Table over every run (O50), a response behind stale bytes (O31), and two QUERYs one after the
other (O42). -/

namespace Sys2Proof.Machine

/-- The step in `Idle` leaves the Command Table alone (R52). -/
theorem idleStep_keeps_table {s t : State} (h : idleStep s = .next t) : t.table = s.table := by
  rcases idleStep_cases s with ⟨-, -, he⟩ | ⟨w, rest, -, -, he⟩ | ⟨f, i, -, -, he⟩ | ⟨f, -, -, he⟩ <;> rw [he] at h
  · cases h
    rfl
  · exact exec_keeps_table (s := { s with port := rest }) h
  · exact exec_keeps_table (s := { s with bench := none }) h
  · cases h
    rfl

/-- Every step leaves the Command Table alone, the reset event included (R32, R52). -/
theorem step_keeps_table {s t : State} (h : step s = .next t) : t.table = s.table := by
  rcases step_cases s with ⟨-, he⟩ | ⟨-, -, he⟩ | ⟨-, -, he⟩ | ⟨-, -, he⟩ | ⟨-, -, he⟩ <;> rw [he] at h
  · cases h
    rfl
  · exact idleStep_keeps_table (s := absorb (nextTurn s) s) h
  · obtain ⟨htable, -⟩ := sendStep_frame h
    exact htable
  · obtain ⟨htable, -⟩ := waitStep_frame h
    exact htable
  · cases h
    rfl

/-- Settles O50: every step keeps the table itself, so every run does, and each address reads as it did. -/
theorem commandTableNeverChanges : Obligations.CommandTableNeverChanges := by
  intro n s t h a
  have htable : t.table = s.table :=
    run_keeps (P := fun u => u.table = s.table) (fun hu hstep => (step_keeps_table hstep).trans hu) rfl h
  rw [htable]

/-- A read that succeeds with nine bytes or more buffered goes on to `Decoding` with the oldest nine in RXBUF and the
rest flushed (R145, R146): `waitStep_read`, with the bytes read off T.RXFIFO. -/
theorem waitStep_reads_oldest {s : State} (hc : s.Configured) (hlen : 9 ≤ s.rxfifo.length) :
    ∃ r : Payload, r.toList = s.rxfifo.take 9 ∧
      waitStep .delivered s = .next { s with rxbuf := r, rxfifo := [], phase := .decoding } := by
  rcases waitStep_cases .delivered s with ⟨hu, -⟩ | ⟨-, hshort, -⟩ | ⟨-, -, r, rest, hr, he⟩ | ⟨-, -, k, v, hk, -⟩
  · exact absurd hu hc
  · omega
  · exact ⟨r, by rw [hr, List.take_left' r.length_toList], he⟩
  · cases hk

/-- Settles O31: the nine oldest bytes are all the stale ones, which came first, and then the response's first. -/
theorem staleBytesShiftTheResponse : Obligations.StaleBytesShiftTheResponse := by
  intro s response hn hp hc hread hstale harrive
  have hlen : 9 ≤ (absorb (nextTurn s) s).rxfifo.length := by simp [harrive]
  obtain ⟨r, hr, he⟩ := waitStep_reads_oldest (s := absorb (nextTurn s) s) hc hlen
  rw [← hread] at he
  refine ⟨_, (step_waiting hn hp).trans he, rfl, rfl, rfl, ?_⟩
  calc r.toList
    _ = (s.rxfifo ++ response.toList).take 9 := by rw [hr, absorb_rxfifo, harrive]
    _ = s.rxfifo ++ response.toList.take (9 - s.rxfifo.length) := by
      rw [List.take_append, List.take_of_length_le hstale.le]

/-- Settles O42: `run_query` twice. After the first QUERY's twelve turns the block is idle with that whole frame sent
and the second QUERY first at the port, behind it what was offered meanwhile. -/
theorem twoQueriesNeverInterleave : Obligations.TwoQueriesNeverInterleave := by
  intro s x x' p a p' a' ts ts' later r r' surplus surplus' hp hb hc hv hv' hport henv hlen hlen' hok hok' hrx hrx'
  have hfirst := run_query hp hb hc hv hport henv hlen hok hrx
  have hboth := (run_add (n := 12) hfirst).trans (run_query rfl hb hc hv' rfl rfl hlen' hok' hrx')
  exact ⟨_, hboth, rfl, rfl, rfl⟩

end Sys2Proof.Machine
end

section
/-! Scope: the encodings (O1, O2, O3, O4). A command word's fields come back by the extraction lemmas of its
concatenation, a format's bytes by `bytes8_concat8` and `bytes9_concat9`, a ParameterId by its row of `pidRows`. -/

namespace Sys2Proof

/-! ## Command words -/

/-- `CW[33:32]` of a word given as its operation code and its operand (R81). -/
@[simp] theorem append_op (op : BitVec 2) (y : BitVec 32) : (op ++ y : CommandWord).extractLsb' 32 2 = op :=
  BitVec.extractLsb'_append_eq_left

/-- `CW[31:0]` of such a word (R81). -/
@[simp] theorem append_operand (op : BitVec 2) (y : BitVec 32) : (op ++ y : CommandWord).extractLsb' 0 32 = y :=
  BitVec.extractLsb'_append_eq_right

/-- An INITIALIZE word, with its whole 32-bit operand (R81). -/
theorem decodeCommand_initialize (b : BitVec 32) : decodeCommand (0#2 ++ b) = .opInitialize b := by
  simp [decodeCommand]

/-- A QUERY word, whatever its reserved bits hold (R81, R90). -/
theorem decodeCommand_query (x : BitVec 16) (p a : Byte) : decodeCommand (commandWord 1#2 x p a) = .opQuery p a := by
  simp [decodeCommand]

/-- An ENCODE word, whatever its reserved bits hold (R81, R90). -/
theorem decodeCommand_encode (x : BitVec 16) (p a : Byte) :
    decodeCommand (commandWord 2#2 x p a) = .opEncode p a := by
  simp [decodeCommand]

/-- A DECODE word: its whole operand is reserved (R81, R90). -/
theorem decodeCommand_decode (y : BitVec 32) : decodeCommand (3#2 ++ y) = .opDecode := by
  simp [decodeCommand]

/-- Settles O1: one lemma per operation; a word put together field by field is a `commandWord`. -/
theorem commandWordFieldsDecode : Obligations.CommandWordFieldsDecode :=
  ⟨fun b => congrArg Decoded.instr (decodeCommand_initialize b),
    fun x p a => congrArg Decoded.instr (decodeCommand_query x p a),
    fun x p a => congrArg Decoded.instr (decodeCommand_encode x p a),
    fun y => congrArg Decoded.instr (decodeCommand_decode y)⟩

/-- Settles O2: each of the eight words is decoded by evaluation. -/
theorem writtenOutWordsDecode : Obligations.WrittenOutWordsDecode := by
  refine ⟨?_, ?_, ?_, ?_, ?_, ?_, ?_, ?_⟩ <;> decide

/-! ## Byte formats -/

/-- The bytes of the 64-bit pattern of eight bytes are these eight (R84, R85). -/
@[simp] theorem bytes8_concat8 (v : Vector Byte 8) : bytes8 (concat8 v) = v := by
  ext k hk : 1
  apply BitVec.eq_of_toNat_eq
  simp only [bytes8, Vector.getElem_ofFn, extract_toNat, concat8_toNat]
  interval_cases k <;> omega

/-- The bytes of the 72-bit pattern of nine bytes are these nine (R86). -/
@[simp] theorem bytes9_concat9 (v : Vector Byte 9) : bytes9 (concat9 v) = v := by
  ext k hk : 1
  apply BitVec.eq_of_toNat_eq
  simp only [bytes9, Vector.getElem_ofFn, extract_toNat, concat9_toNat]
  interval_cases k <;> omega

/-- Settles O3: a command word by its fields, a format by its bytes; what is left is LOOKUP's operand as it stands and
the 31 ParameterIds, each found in its row of `pidRows`. -/
theorem decodeEncodeRoundTrip : Obligations.DecodeEncodeRoundTrip := by
  intro i
  cases i with
  | opInitialize b => exact congrArg Decoded.instr (decodeCommand_initialize b)
  | opQuery p a => exact congrArg Decoded.instr (decodeCommand_query 0#16 p a)
  | opEncode p a => exact congrArg Decoded.instr (decodeCommand_encode 0#16 p a)
  | opDecode => exact congrArg Decoded.instr (decodeCommand_decode 0#32)
  | outMsg m => exact congrArg (fun v => Decoded.instr (.outMsg v)) (bytes8_concat8 m)
  | resp r => exact congrArg (fun v => Decoded.instr (.resp v)) (bytes9_concat9 r)
  | entry e => exact congrArg (fun v => Decoded.instr (.entry v)) (bytes8_concat8 e)
  | _ => rfl

/-! ## ParameterIds -/

/-- Every row of `pidRows` is valid, and every valid ParameterId has a row: the one of its entry number (R82, R83). -/
theorem mem_pidRows_iff_validParam (p : Byte) : (∃ r ∈ pidRows, r.1 = p) ↔ validParam p = true := by
  constructor
  · rintro ⟨r, hr, rfl⟩
    have hrows : ∀ r ∈ pidRows, validParam r.1 = true := by decide
    exact hrows r hr
  · intro h
    obtain ⟨hmod, hle⟩ := (Machine.validParam_iff p).1 h
    have hk : p.toNat / 8 < 31 := by omega
    have hoffset : ∀ k : Fin 31, (pidRows[k.val]'k.isLt).1 = BitVec.ofNat 8 (8 * k.val) := by decide
    refine ⟨_, List.getElem_mem (l := pidRows) hk, (hoffset ⟨_, hk⟩).trans ?_⟩
    rw [Nat.mul_div_cancel' (Nat.dvd_of_mod_eq_zero hmod), BitVec.ofNat_toNat, BitVec.setWidth_eq]

/-- A ParameterId is rejected exactly when it is not valid (R91). -/
theorem decodePid_illegal_iff (p : Byte) : decodePid p = .illegal .invalidParameterId ↔ validParam p = false := by
  rw [← Bool.not_eq_true, ← mem_pidRows_iff_validParam]
  unfold decodePid
  cases hf : pidRows.find? (fun r => r.1 == p) with
  | none =>
    have hno : ¬∃ r ∈ pidRows, r.1 = p := fun ⟨r, hr, hrp⟩ => List.find?_eq_none.1 hf r hr (beq_iff_eq.2 hrp)
    exact iff_of_true rfl hno
  | some r =>
    have hrow : ∃ r ∈ pidRows, r.1 = p := ⟨r, List.mem_of_find?_eq_some hf, by simpa using List.find?_some hf⟩
    exact iff_of_false nofun (not_not_intro hrow)

/-- R83 in its second form: the entry number of a valid ParameterId is not 31. -/
theorem validParam_iff_index (p : Byte) :
    validParam p = true ↔ p.extractLsb' 0 3 = 0#3 ∧ p.extractLsb' 3 5 ≠ 31#5 := by
  rw [Machine.validParam_iff, ← BitVec.toNat_inj, Ne, ← BitVec.toNat_inj, extract_toNat, extract_toNat]
  simp only [BitVec.toNat_ofNat]
  omega

/-- Settles O4: the definition, its second form, a count by evaluation, and `decodePid_illegal_iff`. -/
theorem validParamIsTrueOf31Values : Obligations.ValidParamIsTrueOf31Values := by
  refine ⟨fun p => by simp [validParam], validParam_iff_index, by decide, fun p => ?_⟩
  rw [← Bool.not_eq_false, ← decodePid_illegal_iff]
  exact Iff.rfl

end Sys2Proof
end

section
/-! Scope: what the words of the table's rows do when the block takes them: the ParameterIds and the formats ENTRY and
OUT (O7, O8, O9, O10), a word placed by hand, run or rejected (O17, O18), and what the caller reads of an ended
operation (O36). -/

namespace Sys2Proof.Machine

/-! ## The lookup rows and the formats -/

/-- The row of a ParameterId is the lookup of its own offset (R82, R110). -/
theorem exec_parameterRow {r : Instr × Nat} (hr : r ∈ parameterRows) :
    exec r.1 = answerLookup (BitVec.ofNat 8 r.2) :=
  List.map_inj_left.1 (show parameterRows.map (fun r => exec r.1) =
    parameterRows.map (fun r => answerLookup (BitVec.ofNat 8 r.2)) from rfl) r hr

/-- Settles O7: each row is the lookup of its offset, a valid ParameterId. -/
theorem parameterRowsAnswerTheirEntry : Obligations.ParameterRowsAnswerTheirEntry := by
  intro r hr s
  have hoffset : ∀ r ∈ parameterRows,
      validParam (BitVec.ofNat 8 r.2) = true ∧ (BitVec.ofNat 8 r.2).toNat = r.2 := by decide
  obtain ⟨hv, hnat⟩ := hoffset r hr
  rw [exec_parameterRow hr, answerLookup_valid s hv, templateAt_eq, hnat, templateBytes]

/-- Settles O8: the answer is `entryTemplate`, which reads no byte 0. -/
theorem entryByteZeroIsUnused : Obligations.EntryByteZeroIsUnused := by
  have hset (e : Entry) (b : Byte) : entryTemplate (e.set 0 b) = entryTemplate e := by simp [entryTemplate]
  exact ⟨fun _ _ => rfl, fun e b s => by simp only [exec, execEntry, hset]⟩

/-- Settles O9: the word decodes to the message `bytes8` of it. -/
theorem outgoingMessageIsShownInWireOrder : Obligations.OutgoingMessageIsShownInWireOrder := by
  refine ⟨fun _ _ => rfl, fun w => ⟨bytes8 w, rfl, fun k => ?_⟩⟩
  have hbit : 8 * (7 - k.val) = 56 - 8 * k.val := by omega
  simp [bytes8, hbit]

/-- Settles O10: the accept step of the ENCODE puts the same frame into TXBUF (`frameOf_templateAt`). -/
theorem outOfAFrameIsItsEncode : Obligations.OutOfAFrameIsItsEncode := by
  intro s p a hv
  refine ⟨_, _, rfl, acceptAddressed_valid .encode a s hv, ?_, ?_⟩ <;> rw [assemble_txbuf, frameOf_templateAt]
  · rfl
  · rfl

/-! ## Words presented by hand -/

/-- With a word on the bench the idle block takes it, before the port (log entry 13). -/
theorem idleStep_bench {s : State} {f : FormatWord} {i : Instr} (hb : s.bench = some f)
    (hd : decode (.fmt f) = .instr i) : idleStep s = exec i { s with bench := none } := by
  simp [idleStep, fetch_bench hb, hd]

/-- Settles O17: the idle step takes the word from the bench, and the decoder rejects it. -/
theorem rejectedParameterIdRaises : Obligations.RejectedParameterIdRaises := by
  intro s p hn hp hb hv
  have hd : decode (.fmt (.pid p)) = .illegal .invalidParameterId := (decodePid_illegal_iff p).2 hv
  rw [step_idle hn hp, idleStep, fetch_bench (s := absorb (nextTurn s) s) hb]
  simp only [hd]
  rfl

/-- A quiet turn brings nothing. -/
theorem absorb_quiet (s : State) : absorb EnvTurn.quiet s = { s with env := s.env.tail } := by
  simp [absorb, EnvTurn.quiet]

/-- Settles O18: in the quiet turn the idle step takes the placed word, from the port or from the bench. -/
theorem placedTableWordRuns : Obligations.PlacedTableWordRuns := by
  intro s nbits w i h
  obtain ⟨x, hx, hi⟩ := Option.bind_eq_some_iff.1 h
  have hd : decode x = .instr i := by
    cases hx : decode x with
    | instr j => simpa [hx, Decoded.instr?] using hi
    | illegal e => simp [hx, Decoded.instr?] at hi
  unfold State.withFetchWord
  rw [hx]
  cases x with
  | cw c =>
    obtain rfl : decodeCommand c = i := Decoded.instr.inj hd
    rw [step_idle rfl rfl]
    exact (congrArg idleStep (absorb_quiet _)).trans (idleStep_command rfl rfl)
  | fmt f =>
    rw [step_idle rfl rfl]
    exact (congrArg idleStep (absorb_quiet _)).trans (idleStep_bench rfl hd)

/-! ## The completion record -/

/-- There is no record while the block is busy (R29, R31). -/
theorem completionRecord_busy (op : OpCode) {s : State} (hp : s.phase ≠ .idle) : completionRecord op s = none := by
  simp [completionRecord, State.busy, hp]

/-- In `Idle` the record is STATUS with what the ended operation shows (R95). -/
theorem completionRecord_idle (op : OpCode) {s : State} (hp : s.phase = .idle) :
    completionRecord op s = some
      { status := s.status
        result := if (op = .query ∨ op = .decode) ∧ s.resultValid = true then some s.result else none
        message := if op = .encode ∧ s.status = .ok then some s.txbuf else none } := by
  simp [completionRecord, State.busy, hp]

/-- Settles O36: no record while busy; in `Idle` each of the record's parts is chosen by its own condition. -/
theorem completionRecordShowsEndedOperation : Obligations.CompletionRecordShowsEndedOperation := by
  intro op s
  by_cases hp : s.phase = .idle
  · rw [completionRecord_idle op hp]
    refine ⟨iff_of_false nofun (not_not_intro hp), ?_⟩
    rintro c ⟨⟩
    exact ⟨rfl, fun h => if_pos h, fun h => if_neg h, fun h => if_pos h, fun h => if_neg h, fun hop => by simp [hop]⟩
  · rw [completionRecord_busy op hp]
    exact ⟨iff_of_true rfl hp, nofun⟩

end Sys2Proof.Machine
end

section
/-! Scope: QUERY is ENCODE and then DECODE (O41). In turns that bring no reset and no command, the run up to the eighth
byte, or to a failure and on, is the same for every operation (`run_accepts_and_sends_alike`): no step of it reads
CUROP. From `WaitingForResponse` on, the run reads nothing of CUROP and of the STATUS it began with
(`run_receives_alike`). -/

namespace Sys2Proof.Machine

/-! ## Turns that leave the block to itself -/

/-- A turn with no reset event in which the caller offers no command. -/
abbrev EnvTurn.Calm (t : EnvTurn) : Prop := t.reset = false ∧ t.offer = []

/-- A block to which no word waits and whose transport is configured. -/
structure State.Alone (s : State) : Prop where
  bench : s.bench = none
  port : s.port = []
  configured : s.Configured

/-- A calm turn brings bytes of the meter and nothing else. -/
theorem absorb_calm {s : State} {t : EnvTurn} {later : List EnvTurn} (henv : s.env = t :: later) (ht : t.Calm) :
    absorb t s = { s with rxfifo := s.rxfifo ++ t.arrive, env := later } := by
  obtain ⟨-, hoffer⟩ := ht
  simp [absorb, henv, hoffer]

theorem noReset_of_calm {s : State} {t : EnvTurn} {later : List EnvTurn} (henv : s.env = t :: later) (ht : t.Calm) :
    s.NoReset :=
  (congrArg EnvTurn.reset (nextTurn_eq henv)).trans ht.1

/-- The idle block's step in a calm turn. -/
theorem step_calm_idle {s : State} {t : EnvTurn} {later : List EnvTurn} (henv : s.env = t :: later) (ht : t.Calm)
    (hp : s.phase = .idle) : step s = idleStep { s with rxfifo := s.rxfifo ++ t.arrive, env := later } := by
  rw [step_idle (noReset_of_calm henv ht) hp, nextTurn_eq henv, absorb_calm henv ht]

/-- The send step in a calm turn. -/
theorem step_calm_sending {s : State} {t : EnvTurn} {later : List EnvTurn} (henv : s.env = t :: later) (ht : t.Calm)
    (hp : s.phase = .sending) :
    step s = sendStep t.write { s with rxfifo := s.rxfifo ++ t.arrive, env := later } := by
  rw [step_sending (noReset_of_calm henv ht) hp, nextTurn_eq henv, absorb_calm henv ht]

/-- The wait step in a calm turn. -/
theorem step_calm_waiting {s : State} {t : EnvTurn} {later : List EnvTurn} (henv : s.env = t :: later) (ht : t.Calm)
    (hp : s.phase = .waitingForResponse) :
    step s = waitStep t.read { s with rxfifo := s.rxfifo ++ t.arrive, env := later } := by
  rw [step_waiting (noReset_of_calm henv ht) hp, nextTurn_eq henv, absorb_calm henv ht]

/-- The decode step in a calm turn. -/
theorem step_calm_decoding {s : State} {t : EnvTurn} {later : List EnvTurn} (henv : s.env = t :: later) (ht : t.Calm)
    (hp : s.phase = .decoding) :
    step s = .next (decodeStep { s with rxfifo := s.rxfifo ++ t.arrive, env := later }) := by
  rw [step_decoding (noReset_of_calm henv ht) hp, nextTurn_eq henv, absorb_calm henv ht]

/-- With no word waiting the idle block rests in a calm turn. -/
theorem step_rests {s : State} {t : EnvTurn} {later : List EnvTurn} (henv : s.env = t :: later) (ht : t.Calm)
    (hp : s.phase = .idle) (h : s.Alone) :
    step s = .next { s with rxfifo := s.rxfifo ++ t.arrive, env := later } :=
  (step_calm_idle henv ht hp).trans (idleStep_rests h.bench h.port)

/-- So it does however many calm turns pass. -/
theorem run_rests {ts : List EnvTurn} {s : State} (henv : s.env = ts) (hts : ∀ t ∈ ts, t.Calm)
    (hp : s.phase = .idle) (h : s.Alone) :
    run ts.length s = .next { s with rxfifo := s.rxfifo ++ arrivals ts, env := [] } := by
  induction ts generalizing s with
  | nil =>
    rw [List.length_nil, run_zero, arrivals_nil, List.append_nil, ← henv]
  | cons t ts ih =>
    obtain ⟨ht, hts⟩ := List.forall_mem_cons.1 hts
    refine (run_succ (step_rests henv ht hp h)).trans ?_
    rw [ih rfl hts (by exact hp) (by exact ⟨h.bench, h.port, h.configured⟩)]
    simp

/-! ## Up to the eighth byte -/

/-- A send step whose write succeeds (R124). -/
theorem sendStep_accepted {s : State} (hc : s.Configured) (hlt : s.txcnt.val < 8) :
    sendStep .accepted s = .next
      { s with txlog := s.txlog ++ [s.txbuf[s.txcnt.val]], txcnt := ⟨s.txcnt.val + 1, by omega⟩ } := by
  rcases sendStep_cases (o := .accepted) hlt with ⟨hu, -⟩ | ⟨-, -, he⟩ | ⟨-, hf, -⟩ | ⟨-, hf, -⟩
  · exact absurd hu hc
  · exact he
  · cases hf
  · cases hf

/-- A send step whose write fails, with or without its byte (R127). -/
theorem sendStep_failed {s : State} (hc : s.Configured) (hlt : s.txcnt.val < 8) (landed : Bool) :
    sendStep (.failed landed) s = .next (raiseError .transportError
      { s with txlog := s.txlog ++ if landed then [s.txbuf[s.txcnt.val]] else [] }) := by
  rcases sendStep_cases (o := .failed landed) hlt with ⟨hu, -⟩ | ⟨-, hf, -⟩ | ⟨-, hf, he⟩ | ⟨-, hf, he⟩
  · exact absurd hu hc
  · cases hf
  · cases hf
    exact he
  · cases hf
    simpa using he

/-- A QUERY or ENCODE with `n` bytes of its frame out, or ended by an error. -/
structure State.SentOrFailed (s : State) (n : Nat) : Prop where
  alone : s.Alone
  noResult : s.resultValid = false
  progress : s.phase = .sending ∧ s.txcnt.val = n ∨ s.phase = .idle ∧ s.status ≠ .ok

/-- One more calm turn, the same for QUERY and ENCODE: one more byte is out, or the write fails with TransportError, or
the ended operation stays ended (R124, R127). -/
theorem step_sends_alike {s : State} {n : Nat} {t : EnvTurn} (h : s.SentOrFailed n) (hn : n < 8) (ht : t.Calm) :
    ∃ u : State, u.SentOrFailed (n + 1) ∧ ∀ (op : OpCode) (later : List EnvTurn),
      step { s with curop := op, env := t :: later } = .next { u with curop := op, env := later } := by
  obtain ⟨hb, hport, hc⟩ := h.alone
  rcases h.progress with ⟨hp, rfl⟩ | ⟨hp, hst⟩
  · cases hw : t.write with
    | accepted =>
      refine ⟨{ s with
          rxfifo := s.rxfifo ++ t.arrive, txlog := s.txlog ++ [s.txbuf[s.txcnt.val]]
          txcnt := ⟨s.txcnt.val + 1, by omega⟩ },
        ⟨⟨hb, hport, hc⟩, h.noResult, .inl ⟨hp, rfl⟩⟩, fun op later => ?_⟩
      refine (step_calm_sending rfl ht (by exact hp)).trans ?_
      rw [hw]
      exact sendStep_accepted (by exact hc) (by exact hn)
    | failed landed =>
      refine ⟨raiseError .transportError
          { s with
            rxfifo := s.rxfifo ++ t.arrive
            txlog := s.txlog ++ if landed then [s.txbuf[s.txcnt.val]] else [] },
        ⟨⟨hb, hport, hc⟩, rfl, .inr ⟨rfl, nofun⟩⟩, fun op later => ?_⟩
      refine (step_calm_sending rfl ht (by exact hp)).trans ?_
      rw [hw]
      exact sendStep_failed (by exact hc) (by exact hn) landed
  · exact ⟨{ s with rxfifo := s.rxfifo ++ t.arrive }, ⟨⟨hb, hport, hc⟩, h.noResult, .inr ⟨hp, hst⟩⟩,
      fun op later => step_rests rfl ht (by exact hp) ⟨hb, hport, hc⟩⟩

/-- The calm turns up to the eighth byte, the same for QUERY and ENCODE. -/
theorem run_sends_alike {ts : List EnvTurn} {s : State} {n : Nat} (h : s.SentOrFailed n)
    (hn : n + ts.length ≤ 8) (hts : ∀ t ∈ ts, t.Calm) :
    ∃ u : State, u.SentOrFailed (n + ts.length) ∧ ∀ (op : OpCode) (later : List EnvTurn),
      run ts.length { s with curop := op, env := ts ++ later } = .next { u with curop := op, env := later } := by
  induction ts generalizing s n with
  | nil => exact ⟨s, h, fun _ _ => rfl⟩
  | cons t ts ih =>
    obtain ⟨ht, hts⟩ := List.forall_mem_cons.1 hts
    have hcount : n + (t :: ts).length = n + 1 + ts.length := by
      rw [List.length_cons]
      omega
    rw [hcount] at hn ⊢
    obtain ⟨u, hu, hstep⟩ := step_sends_alike h (by omega) ht
    obtain ⟨v, hv, hrun⟩ := ih hu hn hts
    exact ⟨v, hv, fun op later => (run_succ (hstep op (ts ++ later))).trans (hrun op later)⟩

/-- An ENCODE's word runs the accept step of R161 with its operands, as a QUERY's does (`exec_queryWord`). -/
theorem exec_encodeWord (x : BitVec 16) (p a : Byte) (s : State) :
    exec (decodeCommand (commandWord 2#2 x p a)) s = acceptAddressed .encode p a s := by
  rw [decodeCommand_encode]
  rfl

/-- The accept step in a calm turn of the one word waiting, the same for QUERY and ENCODE: a frame of which nothing is
out, or InvalidParameter (R121, R161). -/
theorem step_accepts_alike {s : State} {t : EnvTurn} (p a : Byte) (hp : s.phase = .idle) (hb : s.bench = none)
    (hc : s.Configured) (ht : t.Calm) :
    ∃ u : State, u.SentOrFailed 0 ∧ ∀ (op : OpCode) (w : CommandWord) (later : List EnvTurn),
      (∀ v, exec (decodeCommand w) v = acceptAddressed op p a v) →
      step { s with port := [w], env := t :: later } = .next { u with curop := op, env := later } := by
  have haccept (op : OpCode) (w : CommandWord) (later : List EnvTurn)
      (hw : ∀ v, exec (decodeCommand w) v = acceptAddressed op p a v) :
      step { s with port := [w], env := t :: later } =
        acceptAddressed op p a { s with port := [], rxfifo := s.rxfifo ++ t.arrive, env := later } :=
    ((step_calm_idle rfl ht (by exact hp)).trans (idleStep_command (by exact hb) rfl)).trans (hw _)
  cases hv : validParam p with
  | true =>
    exact ⟨assemble (frameOf a (templateAt s.table p))
        (latchOperands .query p a { s with port := [], rxfifo := s.rxfifo ++ t.arrive }),
      ⟨⟨hb, rfl, hc⟩, rfl, .inl ⟨rfl, rfl⟩⟩,
      fun op w later hw => (haccept op w later hw).trans (acceptAddressed_valid op a _ hv)⟩
  | false =>
    exact ⟨raiseError .invalidParameter
        (latchOperands .query p a { s with port := [], rxfifo := s.rxfifo ++ t.arrive }),
      ⟨⟨hb, rfl, hc⟩, rfl, .inr ⟨rfl, nofun⟩⟩,
      fun op w later hw => (haccept op w later hw).trans (acceptAddressed_invalid op a _ hv)⟩

/-- The accept step and the eight turns after it, the same for QUERY and ENCODE (R66, R121, R127). -/
theorem run_accepts_and_sends_alike {s : State} {ts : List EnvTurn} (p a : Byte) (hp : s.phase = .idle)
    (hb : s.bench = none) (hc : s.Configured) (hlen : ts.length = 9) (hts : ∀ t ∈ ts, t.Calm) :
    ∃ u : State, u.SentOrFailed 8 ∧ ∀ (op : OpCode) (w : CommandWord) (later : List EnvTurn),
      (∀ v, exec (decodeCommand w) v = acceptAddressed op p a v) →
      run 9 { s with port := [w], env := ts ++ later } = .next { u with curop := op, env := later } := by
  obtain ⟨t, us, rfl⟩ := List.exists_cons_of_length_eq_add_one hlen
  obtain ⟨ht, hus⟩ := List.forall_mem_cons.1 hts
  have hus8 : us.length = 8 := Nat.succ.inj hlen
  obtain ⟨u, hu, haccept⟩ := step_accepts_alike p a hp hb hc ht
  obtain ⟨v, hv, hrun⟩ := run_sends_alike hu (by omega) hus
  rw [hus8] at hv hrun
  exact ⟨v, hv, fun op w later hw => (run_succ (haccept op w (us ++ later) hw)).trans (hrun op later)⟩

/-! ## From the wait on -/

/-- The state with `op` running and, until `op` ends, an old STATUS `st`. -/
def State.under (s : State) (op : OpCode) (st : Status) : State :=
  { s with curop := op, status := if s.phase = .idle then s.status else st }

theorem State.under_idle {s : State} (hp : s.phase = .idle) (op : OpCode) (st : Status) :
    s.under op st = { s with curop := op } := by
  simp [State.under, hp]

theorem State.under_busy {s : State} (hp : s.phase ≠ .idle) (op : OpCode) (st : Status) :
    s.under op st = { s with curop := op, status := st } := by
  simp [State.under, hp]

/-- Nine or more bytes are a response and a rest. -/
theorem exists_payload_append {l : List Byte} (h : 9 ≤ l.length) :
    ∃ (r : Payload) (rest : List Byte), l = r.toList ++ rest :=
  ⟨⟨(l.take 9).toArray, by simpa using h⟩, l.drop 9, (List.take_append_drop 9 l).symm⟩

/-- From the wait on, the step in a calm turn reads nothing of CUROP and of the old STATUS: it goes on and leaves them
alone, or ends the operation with a STATUS of its own, or the ended operation stays ended (R144 to R149). -/
theorem step_receives_alike {s : State} {t : EnvTurn} (h : s.Alone) (hp : s.phase ≠ .sending) (ht : t.Calm) :
    ∃ u : State, u.Alone ∧ u.phase ≠ .sending ∧ ∀ (op : OpCode) (st : Status) (later : List EnvTurn),
      step { s.under op st with env := t :: later } = .next { u.under op st with env := later } := by
  obtain ⟨hb, hport, hc⟩ := h
  cases hphase : s.phase with
  | sending => exact absurd hphase hp
  | idle =>
    refine ⟨{ s with rxfifo := s.rxfifo ++ t.arrive }, ⟨hb, hport, hc⟩, hp, fun op st later => ?_⟩
    rw [State.under_idle hphase, State.under_idle (by exact hphase)]
    exact step_rests rfl ht (by exact hphase) ⟨hb, hport, hc⟩
  | decoding =>
    refine ⟨decodeStep { s with rxfifo := s.rxfifo ++ t.arrive }, ⟨hb, hport, hc⟩, nofun, fun op st later => ?_⟩
    rw [State.under_busy (by simp [hphase]), State.under_idle rfl]
    exact step_calm_decoding rfl ht (by exact hphase)
  | waitingForResponse =>
    have hbusy : s.phase ≠ .idle := by simp [hphase]
    by_cases hlen : (s.rxfifo ++ t.arrive).length < 9
    · refine ⟨{ s with rxfifo := s.rxfifo ++ t.arrive }, ⟨hb, hport, hc⟩, hp, fun op st later => ?_⟩
      rw [State.under_busy hbusy, State.under_busy (by exact hbusy)]
      exact (step_calm_waiting rfl ht (by exact hphase)).trans (waitStep_short (by exact hc) (by exact hlen))
    · have hnine : 9 ≤ (s.rxfifo ++ t.arrive).length := Nat.not_lt.1 hlen
      cases hread : t.read with
      | delivered =>
        obtain ⟨r, rest, hr⟩ := exists_payload_append hnine
        refine ⟨{ s with rxbuf := r, rxfifo := [], phase := .decoding }, ⟨hb, hport, hc⟩, nofun,
          fun op st later => ?_⟩
        rw [State.under_busy hbusy, State.under_busy (by simp)]
        refine (step_calm_waiting rfl ht (by exact hphase)).trans ?_
        rw [hread]
        exact waitStep_read (by exact hc) hr
      | failed k =>
        refine ⟨raiseError .transportError
            { s with
              rxfifo := (s.rxfifo ++ t.arrive).drop k.val
              rxbuf := Config.rxbufAfterFailedRead s.freeCount s.rxbuf
              freeCount := s.freeCount + 1 },
          ⟨hb, hport, hc⟩, nofun, fun op st later => ?_⟩
        rw [State.under_busy hbusy, State.under_idle rfl]
        refine (step_calm_waiting rfl ht (by exact hphase)).trans ?_
        rw [hread]
        exact waitStep_readFails (by exact hc) hnine

/-- So does the whole run from the wait on. -/
theorem run_receives_alike {ts : List EnvTurn} {s : State} (h : s.Alone) (hp : s.phase ≠ .sending)
    (hts : ∀ t ∈ ts, t.Calm) :
    ∃ u : State, ∀ (op : OpCode) (st : Status),
      run ts.length { s.under op st with env := ts } = .next (u.under op st) := by
  induction ts generalizing s with
  | nil => exact ⟨{ s with env := [] }, fun _ _ => rfl⟩
  | cons t ts ih =>
    obtain ⟨ht, hts⟩ := List.forall_mem_cons.1 hts
    obtain ⟨u, hu, hup, hstep⟩ := step_receives_alike h hp ht
    obtain ⟨v, hrun⟩ := ih hu hup hts
    exact ⟨v, fun op st => (run_succ (hstep op st ts)).trans (hrun op st)⟩

/-! ## The two ways to a measurement -/

/-- A DECODE's word in the idle block starts the wait (R161). -/
theorem step_acceptsDecode {s : State} {t : EnvTurn} {later : List EnvTurn} {y : BitVec 32} (hp : s.phase = .idle)
    (hb : s.bench = none) (hport : s.port = [3#2 ++ y]) (henv : s.env = t :: later) (ht : t.Calm) :
    step s = .next
      { s with
        port := [], rxfifo := s.rxfifo ++ t.arrive, env := later
        curop := .decode, resultValid := false, phase := .waitingForResponse } := by
  rw [step_calm_idle henv ht hp]
  refine (idleStep_command (by exact hb) (by exact hport)).trans ?_
  rw [decodeCommand_decode]
  rfl

/-- The end of sending of an ENCODE in a calm turn (R164). -/
theorem step_endsEncode {s : State} {t : EnvTurn} {later : List EnvTurn} (henv : s.env = t :: later) (ht : t.Calm)
    (hp : s.phase = .sending) (hcnt : s.txcnt.val = 8) (hop : s.curop = .encode) :
    step s = .next { s with rxfifo := s.rxfifo ++ t.arrive, env := later, status := .ok, phase := .idle } := by
  rw [step_calm_sending henv ht hp, sendStep_done (by simp [hcnt])]
  simp [endOfSending, hop]

/-- The end of sending of a QUERY (`step_endsSending`) in a calm turn (R164). -/
theorem step_endsQuery {s : State} {t : EnvTurn} {later : List EnvTurn} (henv : s.env = t :: later) (ht : t.Calm)
    (hp : s.phase = .sending) (hcnt : s.txcnt.val = 8) (hop : s.curop = .query) :
    step s = .next { s with rxfifo := s.rxfifo ++ t.arrive, env := later, phase := .waitingForResponse } := by
  rw [step_endsSending henv ht.1 hp (Fin.ext hcnt) hop, absorb_calm henv ht]

/-- Settles O41: QUERY and ENCODE run alike for nine turns. If they have failed, both rest; if the frame is out, the
tenth turn parts them, and the DECODE accepted after the ENCODE stands where the QUERY waits, so both receive alike. -/
theorem queryIsEncodeThenDecode : Obligations.QueryIsEncodeThenDecode := by
  intro s x x' y p a ts us hp hb hc hlen hcalm
  obtain rfl | ⟨ts, t, rfl⟩ := List.eq_nil_or_concat' ts
  · cases hlen
  simp only [List.forall_mem_append, List.forall_mem_singleton] at hcalm
  obtain ⟨⟨hts, ht⟩, hus⟩ := hcalm
  obtain ⟨m, hm, hrun⟩ := run_accepts_and_sends_alike p a hp hb hc (by simpa using hlen) hts
  obtain ⟨hmb, hmport, hmc⟩ := hm.alone
  have hencode := run_add (n := 1) (hrun .encode _ [t] (exec_encodeWord x p a))
  have hquery := run_add (n := us.length + 1) (hrun .query _ (t :: us) (exec_queryWord x' p a))
  have hturns : ts ++ [t] ++ us = ts ++ (t :: us) := List.append_assoc ..
  have hcount : 10 + us.length = 9 + (us.length + 1) := by omega
  rw [hturns, hcount, Nat.add_comm 1]
  rcases hm.progress with ⟨hsending, hcnt⟩ | ⟨hidle, hst⟩
  · have hended := run_succ (n := 0) (step_endsEncode (s := { m with curop := .encode, env := [t] })
      rfl ht hsending hcnt rfl)
    have hwaits := run_succ (n := us.length) (step_endsQuery (s := { m with curop := .query, env := t :: us })
      rfl ht hsending hcnt rfl)
    obtain ⟨v, hreceive⟩ := run_receives_alike (ts := us)
      (s := { m with rxfifo := m.rxfifo ++ t.arrive, phase := .waitingForResponse }) ⟨hmb, hmport, hmc⟩ nofun hus
    refine ⟨_, v.under .query m.status, hencode.trans hended, rfl,
      hquery.trans (hwaits.trans (hreceive .query m.status)), fun hne => absurd rfl hne,
      fun _ => ⟨v.under .decode .ok, ?_, rfl, Iff.rfl, fun hv => ?_⟩⟩
    · refine (run_succ (step_acceptsDecode rfl (by exact hmb) rfl rfl ⟨rfl, rfl⟩)).trans ?_
      simpa [State.under, EnvTurn.quiet, hmport, hm.noResult] using hreceive .decode .ok
    · have hidle : v.phase = .idle := hv
      rw [State.under_idle hidle, State.under_idle hidle]
  · have hrest (op : OpCode) {turns : List EnvTurn} (hcalm : ∀ t ∈ turns, t.Calm) :=
      run_rests (s := { m with curop := op, env := turns }) rfl hcalm hidle ⟨hmb, hmport, hmc⟩
    exact ⟨_, _, hencode.trans (hrest .encode (List.forall_mem_singleton.2 ht)), hidle,
      hquery.trans (hrest .query (List.forall_mem_cons.2 ⟨ht, hus⟩)), fun _ => by simp, fun hok => absurd hok hst⟩

end Sys2Proof.Machine
end

section
/-! Scope: what the lookup answers for every table and operand, as a function of the table (O5) and as the word LOOKUP
the block takes (O6). -/

namespace Sys2Proof.Machine

/-- The template a lookup reads is the statements' own: the bytes at `p+1` to `p+7` (R110, R112). -/
theorem templateAt_eq_templateBytes (m : Memory) (p : Byte) : templateAt m p = templateBytes m p.toNat :=
  templateAt_eq m p

/-- Settles O5: the two cases of the lookup, with the template it reads written byte by byte. -/
theorem lookupReturnsTemplateOneToSeven : Obligations.LookupReturnsTemplateOneToSeven := by
  refine fun m p => ⟨fun hv => ?_, lookupTemplate_invalid m⟩
  rw [lookupTemplate_valid m hv, templateAt_eq_templateBytes]

/-- The meaning of LOOKUP `p` is the lookup of its operand (R110). -/
theorem exec_lookup (p : Byte) (s : State) : exec (.lookup p) s = answerLookup p s := rfl

/-- Settles O6: LOOKUP answers the lookup of its operand, and an invalid operand makes the error entry of R184. -/
theorem lookupAnswersOrRaises : Obligations.LookupAnswersOrRaises := by
  refine fun s p => ⟨fun hv => ?_, fun hv => ?_⟩
  · rw [exec_lookup, answerLookup_valid s hv, templateAt_eq_templateBytes]
  · rw [exec_lookup, answerLookup_invalid s hv]
    rfl

end Sys2Proof.Machine
end

section
/-! Scope: the encoder. What the accept step of a QUERY or ENCODE answers (O13, O14), what a send step does when the
transport accepts the byte and when it fails (O21, O22), and a whole ENCODE (O38): accept and eight send steps, then
the end of sending. -/

namespace Sys2Proof.Machine

/-! ## The accept step -/

/-- QUERY's meaning is the accept step the two addressed operations share (R161). -/
theorem exec_opQuery (p a : Byte) (s : State) : exec (.opQuery p a) s = acceptAddressed .query p a s := rfl

/-- So is ENCODE's. -/
theorem exec_opEncode (p a : Byte) (s : State) : exec (.opEncode p a) s = acceptAddressed .encode p a s := rfl

/-- A valid ParameterId: the frame lies in TXBUF, nothing of it sent, with the address copied whole (R122). -/
theorem acceptAddressed_assembles (op : OpCode) {p : Byte} (a : Byte) (s : State) (hv : validParam p = true) :
    acceptAddressed op p a s = .next
      { s with
        curop := op, param := p, saddr := a, resultValid := false
        txbuf := frameBytes s.table p.toNat a, txcnt := 0, phase := .sending } := by
  rw [acceptAddressed_valid op a s hv, frameOf_templateAt]
  rfl

/-- An invalid ParameterId: the error entry of R184 on the latched operands, and nothing else (R121). -/
theorem acceptAddressed_rejects (op : OpCode) {p : Byte} (a : Byte) (s : State) (hv : validParam p = false) :
    acceptAddressed op p a s = .next
      { s with
        curop := op, param := p, saddr := a, resultValid := false
        status := .invalidParameter, phase := .idle } :=
  acceptAddressed_invalid op a s hv

/-- Settles O13: both operations are the shared accept step, which assembles the frame. -/
theorem validQueryAndEncodeAssembleFrame : Obligations.ValidQueryAndEncodeAssembleFrame := fun s p a hv =>
  ⟨(exec_opQuery p a s).trans (acceptAddressed_assembles .query a s hv),
    (exec_opEncode p a s).trans (acceptAddressed_assembles .encode a s hv)⟩

/-- Settles O14: both operations are the shared accept step, which rejects the ParameterId whatever the address. -/
theorem invalidQueryAndEncodeWriteNothing : Obligations.InvalidQueryAndEncodeWriteNothing := fun s p a hv =>
  ⟨(exec_opQuery p a s).trans (acceptAddressed_rejects .query a s hv),
    (exec_opEncode p a s).trans (acceptAddressed_rejects .encode a s hv)⟩

/-! ## The send step -/

/-- Settles O21: after the environment's turn, the send step whose write is accepted (`sendStep_accepted`). -/
theorem sendStepHandsOverOneByte : Obligations.SendStepHandsOverOneByte := by
  intro s hlt hn hp hc hw
  rw [step_sending hn hp, hw]
  exact sendStep_accepted (s := absorb (nextTurn s) s) hc hlt

/-- Settles O22: after the environment's turn, the send step whose write fails (`sendStep_failed`) and its error
entry (R184). -/
theorem failedWriteEndsWithTransportError : Obligations.FailedWriteEndsWithTransportError := by
  intro s hlt landed hn hp hc hw
  rw [step_sending hn hp, hw]
  exact sendStep_failed (s := absorb (nextTurn s) s) hc hlt landed

/-! ## A whole ENCODE -/

/-- The end of sending of an ENCODE (R164), in a turn that may bring bytes and commands (`step_endsEncode` is its case
in a calm turn). -/
theorem step_completesEncode {s : State} {t : EnvTurn} {later : List EnvTurn} (henv : s.env = t :: later)
    (hn : t.reset = false) (hp : s.phase = .sending) (hcnt : s.txcnt = 8) (hop : s.curop = .encode) :
    step s = .next { absorb t s with status := .ok, phase := .idle } := by
  obtain rfl : nextTurn s = t := nextTurn_eq henv
  rw [step_sending hn hp, sendStep_done (by simp [hcnt])]
  simp [endOfSending, hop]

/-- Settles O38: nine turns bring the whole frame out (`run_sendsFrame`), and the tenth ends the operation. -/
theorem encodeRunSendsExactlyItsFrame : Obligations.EncodeRunSendsExactlyItsFrame := by
  intro s x p a rest ts later hp hb hc hv hport henv hlen hok
  obtain rfl | ⟨us, t, rfl⟩ := List.eq_nil_or_concat' ts
  · cases hlen
  have hus : us.length = 9 := by simpa using hlen
  simp only [List.forall_mem_append, List.forall_mem_singleton] at hok
  obtain ⟨hsend, hn, -⟩ := hok
  have hsent := run_sendsFrame (henv.trans (List.append_assoc ..)) hus hsend hp hb hc hport (exec_encodeWord x p a) hv
  refine (run_add (n := 1) hsent).trans ?_
  refine (run_succ (step_completesEncode rfl hn rfl rfl rfl)).trans ?_
  simp

end Sys2Proof.Machine
end

section
/-! Scope: the decoder. What the wait step does below nine buffered bytes and from nine on (O24, O25, O26), the decode
step (O27) and a whole DECODE (O39): accept, read, decode. Then the value of a response: its 8-byte word as bytes and
as a number (O28, O29), the four bytes the 32-bit value stands for (O30), and patterns read as numbers (O32). -/

namespace Sys2Proof.Machine

/-! ## The wait and the read -/

/-- With nine bytes or more buffered the wait step ends the wait, whether the read succeeds or fails (R144). -/
theorem waitStep_leaves_wait {o : ReadOutcome} {s : State} (hc : s.Configured) (hlen : 9 ≤ s.rxfifo.length) :
    ∃ t : State, waitStep o s = .next t ∧ t.phase ≠ .waitingForResponse := by
  rcases waitStep_cases o s with ⟨hu, -⟩ | ⟨-, hshort, -⟩ | ⟨-, -, r, rest, -, he⟩ | ⟨-, -, k, v, -, he⟩
  · exact absurd hu hc
  · omega
  · exact ⟨_, he, nofun⟩
  · exact ⟨_, he, nofun⟩

/-- Settles O24: after the environment's turn, the wait step below nine bytes (`waitStep_short`) and from nine on. -/
theorem waitEndsExactlyWithTheNinthByte : Obligations.WaitEndsExactlyWithTheNinthByte := by
  intro s hn hp hc
  rw [step_waiting hn hp]
  exact ⟨fun hshort => waitStep_short (s := absorb (nextTurn s) s) hc hshort,
    fun hnine => waitStep_leaves_wait (s := absorb (nextTurn s) s) hc hnine⟩

/-- Settles O25: after the environment's turn, the wait step whose read succeeds (`waitStep_read`). -/
theorem nineOldestBytesAreReadAndRestFlushed : Obligations.NineOldestBytesAreReadAndRestFlushed := by
  intro s r surplus hn hp hc hread hrx
  rw [step_waiting hn hp, hread]
  exact waitStep_read (s := absorb (nextTurn s) s) hc hrx

/-- Settles O26: after the environment's turn, the wait step whose read fails (`waitStep_readFails`) and its error
entry (R184); RXBUF holds the free value the failed read draws. -/
theorem failedReadEndsWithoutResult : Obligations.FailedReadEndsWithoutResult := by
  intro s k hn hp hc hread hlen
  rw [step_waiting hn hp, hread]
  exact ⟨_, waitStep_readFails (s := absorb (nextTurn s) s) hc hlen⟩

/-- Settles O27: the decode step on the state the environment's turn leaves, its value byte by byte. -/
theorem decodeStepDeliversLastFourBytes : Obligations.DecodeStepDeliversLastFourBytes := by
  intro s hn hp
  rw [step_decoding hn hp, ← decodeValue32_eq_lastFour]
  rfl

/-! ## A whole DECODE -/

/-- A DECODE's word starts the wait, whatever its reserved bits hold (R81, R90, R161). -/
theorem exec_decodeWord (y : BitVec 32) (s : State) :
    exec (decodeCommand (3#2 ++ y)) s =
      .next { s with curop := .decode, resultValid := false, phase := .waitingForResponse } := by
  rw [decodeCommand_decode]
  rfl

/-- The accept step of a DECODE (R161), in a turn that may bring bytes and commands (`step_acceptsDecode` is its case
in a calm turn with no other word at the port). -/
theorem step_startsWait {s : State} {t : EnvTurn} {later : List EnvTurn} {y : BitVec 32} {rest : List CommandWord}
    (henv : s.env = t :: later) (hn : t.reset = false) (hp : s.phase = .idle) (hb : s.bench = none)
    (hport : s.port = (3#2 ++ y) :: rest) :
    step s = .next
      { absorb t s with
        port := rest ++ t.offer, curop := .decode, resultValid := false, phase := .waitingForResponse } := by
  obtain rfl : nextTurn s = t := nextTurn_eq henv
  have hword : (absorb (nextTurn s) s).port = (3#2 ++ y) :: (rest ++ (nextTurn s).offer) := by simp [hport]
  rw [step_idle hn hp, idleStep_command (s := absorb (nextTurn s) s) hb hword, exec_decodeWord]

/-- Settles O39: one turn each for the accept, the read with its flush, and the decode step. -/
theorem decodeRunDeliversMeasurement : Obligations.DecodeRunDeliversMeasurement := by
  intro s y rest ts later r surplus hp hb hc hport henv hlen hok hrx
  obtain ⟨t₁, t₂, t₃, rfl⟩ := List.length_eq_three.1 hlen
  simp only [List.forall_mem_cons] at hok
  obtain ⟨⟨hn₁, -⟩, ht₂, ⟨hn₃, -⟩, -⟩ := hok
  refine (run_succ (step_startsWait henv hn₁ hp hb hport)).trans ?_
  refine (run_succ (step_readsResponse (t := t₂) (later := t₃ :: later) (r := r) (surplus := surplus)
    (by simp [henv]) ht₂ rfl (by exact hc) (by simpa using hrx))).trans ?_
  refine (run_succ (step_decodes (t := t₃) (later := later) (by simp [henv]) hn₃ rfl)).trans ?_
  simp [henv]

/-! ## The value of a response -/

/-- The 8-byte word as a number of its bytes: the response's number without the overrun byte (R137, R138). -/
theorem responseWord_toNat (r : Payload) :
    (responseWord r).toNat = r[1].toNat * 2 ^ 56 + r[2].toNat * 2 ^ 48 + r[3].toNat * 2 ^ 40 + r[4].toNat * 2 ^ 32
      + r[5].toNat * 2 ^ 24 + r[6].toNat * 2 ^ 16 + r[7].toNat * 2 ^ 8 + r[8].toNat := by
  simp only [responseWord, responseNumber, extract_toNat, concat9_toNat]
  omega

/-- The 8-byte word is the last eight bytes received, the first of them most significant (R138). -/
theorem responseWord_eq_append (r : Payload) :
    responseWord r = r[1] ++ r[2] ++ r[3] ++ r[4] ++ r[5] ++ r[6] ++ r[7] ++ r[8] := by
  apply BitVec.eq_of_toNat_eq
  simp only [responseWord_toNat, append_toNat]
  omega

/-- The overrun byte is the first one received (R140). -/
theorem overrunByte_eq (r : Payload) : overrunByte r = r[0] := by
  apply BitVec.eq_of_toNat_eq
  simp only [overrunByte, responseNumber, extract_toNat, concat9_toNat]
  omega

/-- Settles O28: the word and the overrun byte are fields of the response's number; the two values are the word and its
low half by definition. -/
theorem decodedValueIsTheBigEndianTail : Obligations.DecodedValueIsTheBigEndianTail := fun r =>
  ⟨responseWord_eq_append r, decodeValue32_eq_lastFour r, rfl, rfl, overrunByte_eq r⟩

/-- The original's destination byte `j` is the received byte `8 - j` (R139). -/
theorem reversedBytes_getElem (r : Payload) (j : Fin 9) : (reversedBytes r)[j.val] = r[8 - j.val] := by
  fin_cases j <;> rfl

/-- Settles O29: the little-endian sum over the reversed bytes is, byte by byte, the word's number. -/
theorem reversedBytesReadLittleEndianAgree : Obligations.ReversedBytesReadLittleEndianAgree := by
  refine fun r => ⟨reversedBytes_getElem r, ?_⟩
  calc (responseWord r).toNat
    _ = r[8].toNat * 256 ^ 0 + r[7].toNat * 256 ^ 1 + r[6].toNat * 256 ^ 2 + r[5].toNat * 256 ^ 3
        + r[4].toNat * 256 ^ 4 + r[3].toNat * 256 ^ 5 + r[2].toNat * 256 ^ 6 + r[1].toNat * 256 ^ 7 := by
      rw [responseWord_toNat]
      omega
    _ = ∑ j : Fin 8, (reversedBytes r)[j.val].toNat * 256 ^ j.val :=
      (Fin.sum_univ_eight fun j : Fin 8 => (reversedBytes r)[j.val].toNat * 256 ^ j.val).symm

/-- The last four bytes as a number (R141). -/
theorem lastFour_toNat (r : Payload) :
    (lastFour r).toNat = r[5].toNat * 2 ^ 24 + r[6].toNat * 2 ^ 16 + r[7].toNat * 2 ^ 8 + r[8].toNat := by
  simp only [lastFour, append_toNat]
  omega

/-- Settles O30: the value is the last four bytes, and a number below `2 ^ 32` has only one base-256 writing in four
digits. -/
theorem valueDependsOnLastFourBytesExactly : Obligations.ValueDependsOnLastFourBytesExactly := by
  intro r r'
  rw [decodeValue32_eq_lastFour, decodeValue32_eq_lastFour]
  constructor
  · intro h
    have hnum := congrArg BitVec.toNat h
    rw [lastFour_toNat, lastFour_toNat] at hnum
    refine ⟨?_, ?_, ?_, ?_⟩ <;>
    · apply BitVec.eq_of_toNat_eq
      omega
  · rintro ⟨h5, h6, h7, h8⟩
    simp only [lastFour, h5, h6, h7, h8]

/-! ## Patterns as numbers -/

/-- Settles O32: the reading of each of the five patterns is evaluated. -/
theorem floatReadingOfKnownPatterns : Obligations.FloatReadingOfKnownPatterns := by
  refine ⟨?_, ?_, ?_, ?_, ?_⟩ <;> decide

end Sys2Proof.Machine
end

section
/-! Scope: the block's operations as the sequencer runs them. The accept steps of INITIALIZE and DECODE (O12, O15), the
word a step in `Idle` takes (O16), the port of a busy block (O19), the end of sending (O23), a whole QUERY (O37), and
the arrows of PHASE (O48), each read off what the step function of its phase can answer. -/

namespace Sys2Proof.Machine

/-! ## The accept step -/

/-- INITIALIZE configures the transport and ends `OK` (R162). -/
theorem exec_opInitialize (b : BitVec 32) (s : State) :
    exec (.opInitialize b) s = .next { tConfigure b 8 .even 1 s with status := .ok } := rfl

/-- DECODE starts the wait (R161). -/
theorem exec_opDecode (s : State) :
    exec .opDecode s = .next { s with curop := .decode, resultValid := false, phase := .waitingForResponse } := rfl

/-- Settles O12: the configured state of `exec_opInitialize`, with `tConfigure`'s record written out. -/
theorem initializeConfiguresTransport : Obligations.InitializeConfiguresTransport := exec_opInitialize

/-- Settles O15. -/
theorem decodeGoesToWait : Obligations.DecodeGoesToWait := exec_opDecode

/-- Settles O16: after the environment's turn the idle step takes the first command word, or the word by hand. -/
theorem stepRunsTheDecodedInstruction : Obligations.StepRunsTheDecodedInstruction := by
  intro s i hn hp
  rw [step_idle hn hp]
  refine ⟨fun w rest hb hport hd => ?_, fun f hb hd => ?_⟩
  · obtain rfl : decodeCommand w = i := Decoded.instr.inj hd
    exact idleStep_command (s := absorb (nextTurn s) s) hb hport
  · exact idleStep_bench (s := absorb (nextTurn s) s) hb hd

/-! ## The running operation -/

/-- Settles O19: the environment's turn appends the offers, and no busy step touches the port or the bench. -/
theorem busyBlockHoldsOfferedCommands : Obligations.BusyBlockHoldsOfferedCommands := by
  intro s t hn hbusy h
  cases hp : s.phase with
  | idle => exact absurd hp hbusy
  | sending =>
    rw [step_sending hn hp] at h
    obtain ⟨-, hport, hbench⟩ := sendStep_frame h
    exact ⟨hport, hbench⟩
  | waitingForResponse =>
    rw [step_waiting hn hp] at h
    obtain ⟨-, hport, hbench⟩ := waitStep_frame h
    exact ⟨hport, hbench⟩
  | decoding =>
    rw [step_decoding hn hp] at h
    cases h
    exact ⟨rfl, rfl⟩

theorem endOfSending_query {s : State} (h : s.curop = .query) :
    endOfSending s = .next { s with phase := .waitingForResponse } := by
  simp [endOfSending, h]

theorem endOfSending_encode {s : State} (h : s.curop = .encode) :
    endOfSending s = .next { s with status := .ok, phase := .idle } := by
  simp [endOfSending, h]

/-- Settles O23: with all eight bytes out the send step is the end of sending, which CUROP decides. -/
theorem endOfSendingSplitsByOperation : Obligations.EndOfSendingSplitsByOperation := by
  intro s hn hp hcnt
  rw [step_sending hn hp, sendStep_done (by simp [hcnt])]
  exact ⟨fun hq => endOfSending_query (s := absorb (nextTurn s) s) hq,
    fun he => endOfSending_encode (s := absorb (nextTurn s) s) he⟩

/-- Settles O37: `run_query` is the end state of the twelve turns. -/
theorem queryRunDeliversMeasurement : Obligations.QueryRunDeliversMeasurement :=
  fun _ _ _ _ _ _ _ _ _ hp hb hc hv hport henv hlen hok hrx => run_query hp hb hc hv hport henv hlen hok hrx

/-! ## The arrows of PHASE -/

/-- From `Idle` by the accept step of a QUERY or ENCODE (R161): on to `Sending`, or back with InvalidParameter. -/
theorem acceptAddressed_arrow {op : OpCode} {p a : Byte} {s t : State} (h : acceptAddressed op p a s = .next t) :
    (t.phase = .idle ∧ t.status = .invalidParameter ∧ validParam p = false) ∨
      (t.phase = .sending ∧ validParam p = true) := by
  cases hv : validParam p with
  | true =>
    rw [acceptAddressed_assembles op a s hv] at h
    cases h
    exact .inr ⟨rfl, rfl⟩
  | false =>
    rw [acceptAddressed_rejects op a s hv] at h
    cases h
    exact .inl ⟨rfl, rfl, rfl⟩

/-- From `Idle` by a command word (R161, R162, R169). -/
theorem exec_command_arrow {w : CommandWord} {s t : State} (hp : s.phase = .idle)
    (h : exec (decodeCommand w) s = .next t) :
    (t.phase = .idle ∧ t.status = .ok ∧ ∃ b, decode (.cw w) = .instr (.opInitialize b)) ∨
      (t.phase = .idle ∧ t.status = .invalidParameter ∧ ∃ p a, validParam p = false ∧
        (decode (.cw w) = .instr (.opQuery p a) ∨ decode (.cw w) = .instr (.opEncode p a))) ∨
      (t.phase = .sending ∧ ∃ p a, validParam p = true ∧
        (decode (.cw w) = .instr (.opQuery p a) ∨ decode (.cw w) = .instr (.opEncode p a))) ∨
      (t.phase = .waitingForResponse ∧ decode (.cw w) = .instr .opDecode) := by
  rw [decode]
  rcases decodeCommand_cases w with ⟨b, hw⟩ | ⟨p, a, hw⟩ | ⟨p, a, hw⟩ | hw <;> rw [hw] at h ⊢
  · rw [exec_opInitialize] at h
    cases h
    exact .inl ⟨hp, rfl, b, rfl⟩
  · rw [exec_opQuery] at h
    rcases acceptAddressed_arrow h with ⟨ht, hst, hv⟩ | ⟨ht, hv⟩
    · exact .inr (.inl ⟨ht, hst, p, a, hv, .inl rfl⟩)
    · exact .inr (.inr (.inl ⟨ht, p, a, hv, .inl rfl⟩))
  · rw [exec_opEncode] at h
    rcases acceptAddressed_arrow h with ⟨ht, hst, hv⟩ | ⟨ht, hv⟩
    · exact .inr (.inl ⟨ht, hst, p, a, hv, .inr rfl⟩)
    · exact .inr (.inr (.inl ⟨ht, p, a, hv, .inr rfl⟩))
  · rw [exec_opDecode] at h
    cases h
    exact .inr (.inr (.inr ⟨rfl, rfl⟩))

/-- A word presented by hand moves PHASE nowhere (log entry 13). -/
theorem idleStep_bench_keeps_idle {s t : State} (hp : s.phase = .idle) (hb : s.bench ≠ none)
    (h : idleStep s = .next t) : t.phase = .idle := by
  rcases idleStep_cases s with ⟨hnone, -⟩ | ⟨w, rest, hnone, -⟩ | ⟨f, i, -, hd, he⟩ | ⟨f, -, -, he⟩
  · exact absurd hnone hb
  · exact absurd hnone hb
  · exact exec_format_keeps_idle (s := { s with bench := none }) hd hp (he ▸ h)
  · rw [he] at h
    cases h
    rfl

/-- From `Sending` (R124, R127, R164, R169). -/
theorem sendStep_arrow {o : WriteOutcome} {s t : State} (hp : s.phase = .sending) (h : sendStep o s = .next t) :
    (t.phase = .sending ∧ s.txcnt.val < 8 ∧ o = .accepted) ∨
      (t.phase = .idle ∧ s.txcnt.val < 8 ∧ t.status = .transportError ∧ o ≠ .accepted) ∨
      (t.phase = .waitingForResponse ∧ s.txcnt.val = 8 ∧ s.curop = .query) ∨
      (t.phase = .idle ∧ s.txcnt.val = 8 ∧ s.curop = .encode ∧ t.status = .ok) := by
  by_cases hlt : s.txcnt.val < 8
  · rcases sendStep_cases (o := o) hlt with ⟨-, he⟩ | ⟨-, ho, he⟩ | ⟨-, ho, he⟩ | ⟨-, ho, he⟩ <;>
      rw [he] at h <;> cases h
    · exact .inl ⟨hp, hlt, ho⟩
    · exact .inr (.inl ⟨rfl, hlt, rfl, ho ▸ nofun⟩)
    · exact .inr (.inl ⟨rfl, hlt, rfl, ho ▸ nofun⟩)
  · have hcnt : s.txcnt.val = 8 := by omega
    rw [sendStep_done hlt] at h
    rcases endOfSending_cases s with ⟨hq, he⟩ | ⟨hq, he⟩ | ⟨-, -, he⟩ <;> rw [he] at h <;> cases h
    · exact .inr (.inr (.inl ⟨rfl, hcnt, hq⟩))
    · exact .inr (.inr (.inr ⟨rfl, hcnt, hq, rfl⟩))

/-- From `WaitingForResponse` (R144, R145, R149, R169). -/
theorem waitStep_arrow {o : ReadOutcome} {s t : State} (hp : s.phase = .waitingForResponse)
    (h : waitStep o s = .next t) :
    (t.phase = .waitingForResponse ∧ s.rxfifo.length < 9) ∨
      (9 ≤ s.rxfifo.length ∧
        ((t.phase = .decoding ∧ o = .delivered) ∨
          (t.phase = .idle ∧ t.status = .transportError ∧ o ≠ .delivered))) := by
  rcases waitStep_cases o s with ⟨-, he⟩ | ⟨-, hlen, he⟩ | ⟨-, ho, r, rest, hr, he⟩ | ⟨-, hlen, k, v, ho, he⟩ <;>
    rw [he] at h <;> cases h
  · exact .inl ⟨hp, hlen⟩
  · exact .inr ⟨by simp [hr], .inl ⟨rfl, ho⟩⟩
  · exact .inr ⟨hlen, .inr ⟨rfl, rfl, ho ▸ nofun⟩⟩

/-- Settles O48: in each phase the step is the one function of that phase on the state the environment's turn leaves,
and its arrows are those of the lemma about it. -/
theorem phaseMovesOnlyAlongItsArrows : Obligations.PhaseMovesOnlyAlongItsArrows := by
  refine fun s t hn h => ⟨fun hp => ?_, fun hp => ?_, fun hp => ?_, fun hp => ?_⟩
  · rw [step_idle hn hp] at h
    by_cases hb : s.bench = none
    · cases hport : s.port ++ (nextTurn s).offer with
      | nil =>
        rw [idleStep_rests (s := absorb (nextTurn s) s) hb hport] at h
        cases h
        exact .inl ⟨hp, .inr rfl⟩
      | cons w rest =>
        rw [idleStep_command (s := absorb (nextTurn s) s) hb hport] at h
        exact .inr ⟨hb, w, rest, rfl, exec_command_arrow (s := { absorb (nextTurn s) s with port := rest }) hp h⟩
    · exact .inl ⟨idleStep_bench_keeps_idle (s := absorb (nextTurn s) s) hp hb h, .inl hb⟩
  · exact sendStep_arrow (s := absorb (nextTurn s) s) hp (step_sending hn hp ▸ h)
  · exact waitStep_arrow (s := absorb (nextTurn s) s) hp (step_waiting hn hp ▸ h)
  · rw [step_decoding hn hp] at h
    cases h
    rfl

end Sys2Proof.Machine
end

section
/-! Scope: the outcomes of a QUERY (O44). How far a QUERY has come is one of six stages (`QueryStage`), each with what
T.TXLOG and T.RXFIFO then hold. The accept step of a valid QUERY reaches the first stage, every calm turn leads from a
stage to a stage, and so every run of calm turns does (`run_keeps_past`). -/

namespace Sys2Proof.Machine

/-- What a calm turn keeps, counting it among the turns past, calm turns keep together. -/
theorem run_keeps_past {P : List EnvTurn → State → Prop} {later : List EnvTurn}
    (hstep : ∀ {past : List EnvTurn} {t : State} {e : EnvTurn} {rest : List EnvTurn},
      P past t → t.env = e :: rest → e.Calm → ∃ u, step t = .next u ∧ u.env = rest ∧ P (past ++ [e]) u)
    {ts past : List EnvTurn} {t : State} (h : P past t) (henv : t.env = ts ++ later) (hts : ∀ e ∈ ts, e.Calm) :
    ∃ u, run ts.length t = .next u ∧ P (past ++ ts) u := by
  induction ts generalizing past t with
  | nil => exact ⟨t, rfl, by rwa [List.append_nil]⟩
  | cons e ts ih =>
    obtain ⟨he, hts⟩ := List.forall_mem_cons.1 hts
    obtain ⟨u, hu, huenv, hP⟩ := hstep h henv he
    obtain ⟨v, hv, hQ⟩ := ih hP huenv hts
    exact ⟨v, (run_succ hu).trans hv, by rwa [List.append_cons]⟩

/-! ## An invalid QUERY -/

/-- A QUERY begun in `s` has ended with InvalidParameter, the transport not touched in the turns past (R121). -/
structure QueryRejected (s : State) (past : List EnvTurn) (t : State) : Prop where
  alone : t.Alone
  phase : t.phase = .idle
  status : t.status = .invalidParameter
  noResult : t.resultValid = false
  txlog : t.txlog = s.txlog
  rxfifo : t.rxfifo = s.rxfifo ++ arrivals past

/-- The ended QUERY stays ended in a calm turn, which brings bytes of the meter alone. -/
theorem QueryRejected.step {s t : State} {past rest : List EnvTurn} {e : EnvTurn} (h : QueryRejected s past t)
    (henv : t.env = e :: rest) (he : e.Calm) :
    ∃ u, step t = .next u ∧ u.env = rest ∧ QueryRejected s (past ++ [e]) u :=
  ⟨_, step_rests henv he h.phase h.alone, rfl, ⟨h.alone.bench, h.alone.port, h.alone.configured⟩, h.phase, h.status,
    h.noResult, h.txlog, by simp [h.rxfifo]⟩

/-! ## A valid QUERY -/

/-- RXBUF holds the nine oldest of the bytes that lay buffered in `s` or came before the read; T.RXFIFO holds what
came after it (R145, R146). -/
def ReadSince (s : State) (past : List EnvTurn) (t : State) : Prop :=
  ∃ before after, past = before ++ after ∧ t.rxbuf.toList <+: s.rxfifo ++ arrivals before ∧ t.rxfifo = arrivals after

/-- The stages of a valid QUERY of `p` and `a` begun in `s`, the turns `past` ago (R166, R167). -/
inductive QueryStage (s : State) (p a : Byte) (past : List EnvTurn) (t : State) : Prop where
  /-- The first TXCNT bytes of the frame are out. -/
  | sending (phase : t.phase = .sending) (noResult : t.resultValid = false) (curop : t.curop = .query)
      (frame : t.txbuf.toList = encodeFrame s.table p a)
      (txlog : t.txlog = s.txlog ++ (encodeFrame s.table p a).take t.txcnt.val)
      (rxfifo : t.rxfifo = s.rxfifo ++ arrivals past)
  | waiting (phase : t.phase = .waitingForResponse) (noResult : t.resultValid = false)
      (txlog : t.txlog = s.txlog ++ encodeFrame s.table p a) (rxfifo : t.rxfifo = s.rxfifo ++ arrivals past)
  | decoding (phase : t.phase = .decoding) (noResult : t.resultValid = false)
      (txlog : t.txlog = s.txlog ++ encodeFrame s.table p a) (read : ReadSince s past t)
  | succeeded (phase : t.phase = .idle) (status : t.status = .ok) (valid : t.resultValid = true)
      (result : t.result = lastFour t.rxbuf) (txlog : t.txlog = s.txlog ++ encodeFrame s.table p a)
      (read : ReadSince s past t)
  | sendFailed (phase : t.phase = .idle) (status : t.status = .transportError) (noResult : t.resultValid = false)
      (k : Nat) (hk : k ≤ 8) (txlog : t.txlog = s.txlog ++ (encodeFrame s.table p a).take k)
      (rxfifo : t.rxfifo = s.rxfifo ++ arrivals past)
  /-- The failed read took `k` bytes of those then there. -/
  | readFailed (phase : t.phase = .idle) (status : t.status = .transportError) (noResult : t.resultValid = false)
      (txlog : t.txlog = s.txlog ++ encodeFrame s.table p a) (k : Nat) (hk : k ≤ 9)
      (there : k ≤ (s.rxfifo ++ arrivals past).length) (rxfifo : t.rxfifo = (s.rxfifo ++ arrivals past).drop k)

/-- A QUERY in one of its stages, with no other command waiting. -/
def QueryUnderWay (s : State) (p a : Byte) (past : List EnvTurn) (t : State) : Prop :=
  t.Alone ∧ QueryStage s p a past t

/-- A frame is eight bytes (R85). -/
theorem encodeFrame_length (m : Memory) (p a : Byte) : (encodeFrame m p a).length = 8 := rfl

section Stages

variable {s t : State} {p a : Byte} {past rest : List EnvTurn} {e : EnvTurn}

/-- Bytes that come in a turn after the read join those that came after it. -/
theorem ReadSince.arrive (h : ReadSince s past t) {u : State} (hbuf : u.rxbuf = t.rxbuf)
    (hrx : u.rxfifo = t.rxfifo ++ e.arrive) : ReadSince s (past ++ [e]) u := by
  obtain ⟨before, after, rfl, hread, hafter⟩ := h
  exact ⟨before, after ++ [e], by simp, by rwa [hbuf], by simp [hrx, hafter]⟩

/-- A calm turn of `Sending`: one more byte is out, or the write fails, or the wait begins (R124, R127, R164). -/
theorem step_query_sending (hl : t.Alone) (henv : t.env = e :: rest) (he : e.Calm) (hp : t.phase = .sending)
    (hn : t.resultValid = false) (hq : t.curop = .query) (hframe : t.txbuf.toList = encodeFrame s.table p a)
    (hlog : t.txlog = s.txlog ++ (encodeFrame s.table p a).take t.txcnt.val)
    (hrx : t.rxfifo = s.rxfifo ++ arrivals past) :
    ∃ u, step t = .next u ∧ u.env = rest ∧ QueryUnderWay s p a (past ++ [e]) u := by
  obtain ⟨hb, hport, hc⟩ := hl
  have harrive : t.rxfifo ++ e.arrive = s.rxfifo ++ arrivals (past ++ [e]) := by simp [hrx]
  by_cases hlt : t.txcnt.val < 8
  · have hlen : t.txcnt.val < t.txbuf.toList.length := by rwa [Vector.length_toList]
    have hnext : t.txlog ++ [t.txbuf[t.txcnt.val]] = s.txlog ++ (encodeFrame s.table p a).take (t.txcnt.val + 1) := by
      rw [← Vector.getElem_toList hlen, hlog, ← hframe, List.append_assoc, List.take_concat_get']
    have hstep := step_calm_sending henv he hp
    cases hw : e.write with
    | accepted =>
      rw [hw] at hstep
      exact ⟨_, hstep.trans (sendStep_accepted (by exact hc) (by exact hlt)), rfl, ⟨hb, hport, hc⟩,
        .sending hp hn hq hframe hnext harrive⟩
    | failed landed =>
      rw [hw] at hstep
      refine ⟨_, hstep.trans (sendStep_failed (by exact hc) (by exact hlt) landed), rfl, ⟨hb, hport, hc⟩, ?_⟩
      cases landed with
      | true => exact .sendFailed rfl rfl rfl (t.txcnt.val + 1) hlt hnext harrive
      | false => exact .sendFailed rfl rfl rfl t.txcnt.val hlt.le ((List.append_nil _).trans hlog) harrive
  · have hcnt : t.txcnt.val = 8 := by omega
    rw [hcnt, List.take_of_length_le (encodeFrame_length ..).le] at hlog
    exact ⟨_, step_endsQuery henv he hp hcnt hq, rfl, ⟨hb, hport, hc⟩, .waiting rfl hn hlog harrive⟩

/-- A calm turn of `WaitingForResponse`: the wait goes on, or the read succeeds, or it fails (R144, R145, R149). -/
theorem step_query_waiting (hl : t.Alone) (henv : t.env = e :: rest) (he : e.Calm) (hp : t.phase = .waitingForResponse)
    (hn : t.resultValid = false) (hlog : t.txlog = s.txlog ++ encodeFrame s.table p a)
    (hrx : t.rxfifo = s.rxfifo ++ arrivals past) :
    ∃ u, step t = .next u ∧ u.env = rest ∧ QueryUnderWay s p a (past ++ [e]) u := by
  obtain ⟨hb, hport, hc⟩ := hl
  have harrive : t.rxfifo ++ e.arrive = s.rxfifo ++ arrivals (past ++ [e]) := by simp [hrx]
  rw [step_calm_waiting henv he hp]
  rcases waitStep_cases e.read { t with rxfifo := t.rxfifo ++ e.arrive, env := rest } with
    ⟨hu, -⟩ | ⟨-, -, hstep⟩ | ⟨-, -, r, surplus, hr, hstep⟩ | ⟨-, hnine, k, v, -, hstep⟩
  · exact absurd hu hc
  · exact ⟨_, hstep, rfl, ⟨hb, hport, hc⟩, .waiting hp hn hlog harrive⟩
  · exact ⟨_, hstep, rfl, ⟨hb, hport, hc⟩,
      .decoding rfl hn hlog ⟨past ++ [e], [], (List.append_nil _).symm, ⟨surplus, hr.symm.trans harrive⟩, rfl⟩⟩
  · have hk : k.val ≤ 9 := Nat.le_of_lt_succ k.isLt
    exact ⟨_, hstep, rfl, ⟨hb, hport, hc⟩,
      .readFailed rfl rfl rfl hlog k hk (harrive ▸ hk.trans hnine) (congrArg (List.drop k) harrive)⟩

/-- Every calm turn leads from a stage to a stage. -/
theorem QueryUnderWay.step (h : QueryUnderWay s p a past t) (henv : t.env = e :: rest) (he : e.Calm) :
    ∃ u, step t = .next u ∧ u.env = rest ∧ QueryUnderWay s p a (past ++ [e]) u := by
  obtain ⟨hl, hstage⟩ := h
  have ⟨hb, hport, hc⟩ := hl
  cases hstage with
  | sending hp hn hq hframe hlog hrx => exact step_query_sending hl henv he hp hn hq hframe hlog hrx
  | waiting hp hn hlog hrx => exact step_query_waiting hl henv he hp hn hlog hrx
  | decoding hp hn hlog hread =>
    exact ⟨_, step_calm_decoding henv he hp, rfl, ⟨hb, hport, hc⟩,
      .succeeded rfl rfl rfl (decodeValue32_eq_lastFour t.rxbuf) hlog (hread.arrive rfl rfl)⟩
  | succeeded hp hst hv hres hlog hread =>
    exact ⟨_, step_rests henv he hp hl, rfl, ⟨hb, hport, hc⟩,
      .succeeded hp hst hv hres hlog (hread.arrive rfl rfl)⟩
  | sendFailed hp hst hn k hk hlog hrx =>
    exact ⟨_, step_rests henv he hp hl, rfl, ⟨hb, hport, hc⟩, .sendFailed hp hst hn k hk hlog (by simp [hrx])⟩
  | readFailed hp hst hn hlog k hk hthere hrx =>
    have hstill : k ≤ (s.rxfifo ++ arrivals (past ++ [e])).length := by
      rw [arrivals_append, ← List.append_assoc, List.length_append]
      omega
    refine ⟨_, step_rests henv he hp hl, rfl, ⟨hb, hport, hc⟩, .readFailed hp hst hn hlog k hk hstill ?_⟩
    rw [arrivals_append, ← List.append_assoc, List.drop_append_of_le_length hthere, ← hrx]
    simp

end Stages

/-! ## The outcomes -/

/-- The accept step of the one QUERY at the port, in a calm turn (R161). -/
theorem step_acceptsQuery {s : State} {e : EnvTurn} {rest : List EnvTurn} {x : BitVec 16} {p a : Byte}
    (henv : s.env = e :: rest) (he : e.Calm) (hp : s.phase = .idle) (hb : s.bench = none)
    (hport : s.port = [commandWord 1#2 x p a]) :
    step s = acceptAddressed .query p a { s with port := [], rxfifo := s.rxfifo ++ e.arrive, env := rest } := by
  rw [step_calm_idle henv he hp]
  exact (idleStep_command (by exact hb) (by exact hport)).trans (exec_queryWord ..)

/-- It rejects an invalid ParameterId (R121). -/
theorem step_rejectsQuery {s : State} {e : EnvTurn} {rest : List EnvTurn} {x : BitVec 16} {p a : Byte}
    (henv : s.env = e :: rest) (he : e.Calm) (hp : s.phase = .idle) (hb : s.bench = none) (hc : s.Configured)
    (hport : s.port = [commandWord 1#2 x p a]) (hv : validParam p = false) :
    ∃ u, step s = .next u ∧ u.env = rest ∧ QueryRejected s [e] u :=
  ⟨_, (step_acceptsQuery henv he hp hb hport).trans (acceptAddressed_rejects _ _ _ hv), rfl, ⟨hb, rfl, hc⟩, rfl, rfl,
    rfl, rfl, by simp⟩

/-- With a valid one the QUERY is under way, nothing of its frame out (R122). -/
theorem step_startsQuery {s : State} {e : EnvTurn} {rest : List EnvTurn} {x : BitVec 16} {p a : Byte}
    (henv : s.env = e :: rest) (he : e.Calm) (hp : s.phase = .idle) (hb : s.bench = none) (hc : s.Configured)
    (hport : s.port = [commandWord 1#2 x p a]) (hv : validParam p = true) :
    ∃ u, step s = .next u ∧ u.env = rest ∧ QueryUnderWay s p a [e] u :=
  ⟨_, (step_acceptsQuery henv he hp hb hport).trans (acceptAddressed_assembles _ _ _ hv), rfl, ⟨hb, rfl, hc⟩,
    .sending rfl rfl rfl rfl (List.append_nil _).symm (by simp)⟩

/-- What the stage of a QUERY says of its outcome: still running, success, or failure in a send or in the read. -/
theorem QueryStage.outcome {s t : State} {p a : Byte} {ts : List EnvTurn} (h : QueryStage s p a ts t) :
    (t.phase ≠ .idle ∧ t.resultValid = false ∧
      (t.phase = .waitingForResponse →
        t.txlog = s.txlog ++ encodeFrame s.table p a ∧ t.rxfifo = s.rxfifo ++ arrivals ts)) ∨
    (t.phase = .idle ∧ t.status = .ok ∧ t.resultValid = true ∧ t.result = lastFour t.rxbuf ∧
      t.txlog = s.txlog ++ encodeFrame s.table p a ∧
      ∃ j ≤ ts.length, t.rxbuf.toList <+: s.rxfifo ++ arrivals (ts.take j) ∧ t.rxfifo = arrivals (ts.drop j)) ∨
    (t.phase = .idle ∧ t.status = .transportError ∧ t.resultValid = false ∧
      (∃ k ≤ 8, t.txlog = s.txlog ++ (encodeFrame s.table p a).take k) ∧ t.rxfifo = s.rxfifo ++ arrivals ts) ∨
    (t.phase = .idle ∧ t.status = .transportError ∧ t.resultValid = false ∧
      t.txlog = s.txlog ++ encodeFrame s.table p a ∧ ∃ k ≤ 9, t.rxfifo = (s.rxfifo ++ arrivals ts).drop k) := by
  cases h with
  | sending hp hn _ _ _ _ => exact .inl ⟨by simp [hp], hn, by simp [hp]⟩
  | waiting hp hn hlog hrx => exact .inl ⟨by simp [hp], hn, fun _ => ⟨hlog, hrx⟩⟩
  | decoding hp hn _ _ => exact .inl ⟨by simp [hp], hn, by simp [hp]⟩
  | succeeded hp hst hv hres hlog hread =>
    obtain ⟨before, after, rfl, hprefix, hafter⟩ := hread
    exact .inr (.inl ⟨hp, hst, hv, hres, hlog, before.length, by simp, by simpa using hprefix, by simpa using hafter⟩)
  | sendFailed hp hst hn k hk hlog hrx => exact .inr (.inr (.inl ⟨hp, hst, hn, ⟨k, hk, hlog⟩, hrx⟩))
  | readFailed hp hst hn hlog k hk _ hrx => exact .inr (.inr (.inr ⟨hp, hst, hn, hlog, k, hk, hrx⟩))

/-- Settles O44: the accept step rejects the QUERY, which then stays ended, or reaches its first stage, from which the
further turns lead through its stages. -/
theorem queryHasOnlyTheseOutcomes : Obligations.QueryHasOnlyTheseOutcomes := by
  intro s x p a ts later hp hb hc hport henv hne hcalm
  obtain ⟨e, ts, rfl⟩ := List.exists_cons_of_ne_nil hne
  obtain ⟨he, hts⟩ := List.forall_mem_cons.1 hcalm
  cases hv : validParam p with
  | false =>
    obtain ⟨u, hu, huenv, hrejected⟩ := step_rejectsQuery henv he hp hb hc hport hv
    obtain ⟨t, hrun, h⟩ := run_keeps_past QueryRejected.step hrejected huenv hts
    exact ⟨t, (run_succ hu).trans hrun, fun _ => ⟨h.phase, h.status, h.noResult, h.txlog, h.rxfifo⟩, nofun⟩
  | true =>
    obtain ⟨u, hu, huenv, hstarted⟩ := step_startsQuery henv he hp hb hc hport hv
    obtain ⟨t, hrun, -, hstage⟩ := run_keeps_past QueryUnderWay.step hstarted huenv hts
    exact ⟨t, (run_succ hu).trans hrun, nofun, fun _ => hstage.outcome⟩

end Sys2Proof.Machine
end

section
/-! Scope: reset and hazards. The reset state and the reset event (O45, O34), the refused transport call (O33), what a
step can answer from a state of the invariant (O47), and the wait without end (O40). -/

namespace Sys2Proof.Machine

/-! ## Reset -/

/-- Settles O45: the reset state is `Idle` with no valid result, an empty table listing and STATUS `OK`. -/
theorem resetStateMeetsTheInvariant : Obligations.ResetStateMeetsTheInvariant :=
  .of_idle rfl Memory.wf_nil nofun ⟨nofun, nofun⟩

/-- A step with the reset event, in any phase (R200). -/
theorem step_reset {s : State} (hr : (nextTurn s).reset = true) :
    step s = .next (resetEvent (absorb (nextTurn s) s)) := by
  simp [step, hr]

/-- Settles O34: the step is the reset event after the environment's turn. -/
theorem resetEventReturnsToIdle : Obligations.ResetEventReturnsToIdle := fun _ hr =>
  ⟨_, step_reset hr, rfl, rfl, rfl, rfl, rfl, rfl, rfl⟩

/-! ## What a step can answer -/

/-- The send step with a byte left, on an unconfigured transport (R203). -/
theorem sendStep_unconfigured {o : WriteOutcome} {s : State} (hc : s.config = none) (hlt : s.txcnt.val < 8) :
    sendStep o s = .refused .transportUnconfigured := by
  rcases sendStep_cases (o := o) hlt with ⟨-, he⟩ | ⟨hu, -⟩ | ⟨hu, -⟩ | ⟨hu, -⟩
  · exact he
  all_goals exact absurd hc hu

/-- Settles O33: the send step's `T.write` or the wait step's `T.available` is the call that is refused. -/
theorem unconfiguredTransportCallIsRefused : Obligations.UnconfiguredTransportCallIsRefused := by
  rintro s hn hc (⟨hp, hlt⟩ | hp)
  · rw [step_sending hn hp]
    exact sendStep_unconfigured (s := absorb (nextTurn s) s) hc hlt
  · rw [step_waiting hn hp]
    exact waitStep_unconfigured (s := absorb (nextTurn s) s) hc

/-- Every instruction answers a next state. -/
theorem exec_answers (i : Instr) (s : State) : ∃ t, exec i s = .next t := by
  rcases exec_cases i s with ⟨b, -, he⟩ | ⟨p, a, op, -, -, he⟩ | ⟨p, a, op, -, -, he⟩ | ⟨-, he⟩ | ⟨m, -, he⟩ |
    ⟨r, -, he⟩ | ⟨t, he⟩ | ⟨p, -, -, he⟩ <;> exact ⟨_, he⟩

/-- So does the block in `Idle`, whatever word it takes. -/
theorem idleStep_answers (s : State) : ∃ t, idleStep s = .next t := by
  rcases idleStep_cases s with ⟨-, -, he⟩ | ⟨w, rest, -, -, he⟩ | ⟨f, i, -, -, he⟩ | ⟨f, -, -, he⟩
  · exact ⟨_, he⟩
  · exact he ▸ exec_answers _ _
  · exact he ▸ exec_answers _ _
  · exact ⟨_, he⟩

/-- The send step of a QUERY or ENCODE does not fault: the fault is for another CUROP alone (R164). -/
theorem sendStep_answers (o : WriteOutcome) {s : State} (hop : s.curop = .query ∨ s.curop = .encode) :
    (∃ t, sendStep o s = .next t) ∨ (s.config = none ∧ sendStep o s = .refused .transportUnconfigured) := by
  by_cases hlt : s.txcnt.val < 8
  · rcases sendStep_cases (o := o) hlt with hu | ⟨-, -, he⟩ | ⟨-, -, he⟩ | ⟨-, -, he⟩
    · exact .inr hu
    all_goals exact .inl ⟨_, he⟩
  · rw [sendStep_done hlt]
    rcases hop with hq | he
    · exact .inl ⟨_, endOfSending_query hq⟩
    · exact .inl ⟨_, endOfSending_encode he⟩

/-- The wait step is a step unless `T.available` is refused (R203). -/
theorem waitStep_answers (o : ReadOutcome) (s : State) :
    (∃ t, waitStep o s = .next t) ∨ (s.config = none ∧ waitStep o s = .refused .transportUnconfigured) := by
  rcases waitStep_cases o s with hu | ⟨-, -, he⟩ | ⟨-, -, r, rest, -, he⟩ | ⟨-, -, k, v, -, he⟩
  · exact .inr hu
  all_goals exact .inl ⟨_, he⟩

/-- Every step from a state of the invariant gives a next state or is the refused transport call. -/
theorem State.Inv.step_answers {s : State} (h : s.Inv) :
    s.SafeStep ∨
      (s.config = none ∧ (s.phase = .sending ∨ s.phase = .waitingForResponse) ∧
        step s = .refused .transportUnconfigured) := by
  rw [State.SafeStep]
  rcases step_cases s with ⟨-, hx⟩ | ⟨-, -, hx⟩ | ⟨-, hp, hx⟩ | ⟨-, hp, hx⟩ | ⟨-, -, hx⟩ <;> rw [hx]
  · exact .inl ⟨_, rfl⟩
  · exact .inl (idleStep_answers _)
  · rcases sendStep_answers (s := absorb (nextTurn s) s) (nextTurn s).write (h.sending_curop hp) with hn | ⟨hc, hr⟩
    · exact .inl hn
    · exact .inr ⟨hc, .inl hp, hr⟩
  · rcases waitStep_answers (nextTurn s).read (absorb (nextTurn s) s) with hn | ⟨hc, hr⟩
    · exact .inl hn
    · exact .inr ⟨hc, .inr hp, hr⟩
  · exact .inl ⟨_, rfl⟩

/-- Settles O47: of the two answers of `State.Inv.step_answers` neither is a fault, and the refusal needs an
unconfigured transport. -/
theorem stepsAreSafeOnAConfiguredTransport : Obligations.StepsAreSafeOnAConfiguredTransport := by
  intro s h
  rcases h.step_answers with ⟨t, ht⟩ | ⟨hc, hp, hr⟩
  · exact ⟨by simp [ht], fun _ => ⟨t, ht⟩, by simp [ht]⟩
  · refine ⟨by simp [hr], fun hconf => absurd hc hconf, fun r he => ?_⟩
    rw [hr] at he
    cases he
    exact ⟨rfl, hc, hp⟩

/-! ## The wait -/

/-- A turn that leaves fewer than nine bytes buffered changes nothing but what it brings (R144). -/
theorem step_keepsWaiting {s : State} {t : EnvTurn} {later : List EnvTurn} (henv : s.env = t :: later)
    (hn : t.reset = false) (hp : s.phase = .waitingForResponse) (hc : s.Configured)
    (hlen : (s.rxfifo ++ t.arrive).length < 9) : step s = .next (absorb t s) := by
  obtain rfl : nextTurn s = t := nextTurn_eq henv
  rw [step_waiting hn hp]
  exact waitStep_short (s := absorb (nextTurn s) s) hc hlen

/-- Settles O40, by induction on the turns: each leaves the block waiting, with the rest of the bytes still to come. -/
theorem waitIsUnboundedBelowNineBytes : Obligations.WaitIsUnboundedBelowNineBytes := by
  intro s ts later hp hc henv hts hlen
  induction ts generalizing s with
  | nil =>
    obtain rfl : s.env = later := henv
    simp
  | cons t ts ih =>
    obtain ⟨hn, hts⟩ := List.forall_mem_cons.1 hts
    have hbytes : ((s.rxfifo ++ t.arrive) ++ arrivals ts).length < 9 := by simpa using hlen
    have hnow : (s.rxfifo ++ t.arrive).length < 9 := by
      rw [List.length_append] at hbytes
      omega
    refine (run_succ (step_keepsWaiting henv hn hp hc hnow)).trans ?_
    rw [ih (absorb t s) hp hc (by simp [henv]) hts hbytes]
    simp [absorb]

end Sys2Proof.Machine
end
